-- ==== Sys2Proof/Word.lean ====
section
/-! DEFINITION. The value types of the block: source words and the source frequency.

A microsecond value is a plain `Nat`, exact and never wrapped (R11; decision D14 lets a model use unbounded naturals; log 17).
That a stored value fits in `US_W` bits is an invariant of the model, not part of the type. -/

namespace Sys2Proof

/-- A word of the source queue, a tick count or the command code: 32 bits (R7 `WORD_W`, `CODE_W`). -/
abbrev Word := BitVec 32

/-- The source clock frequency `F_SRC` in hertz. R9: the conversion divides by it, so it is at least 1, and no
instance with 0 exists. -/
abbrev Freq := {n : Nat // 1 ≤ n}

end Sys2Proof
end

