-- ==== Sys2Proof/Config.lean ====
section
/-! DEFINITION. The constants of the block (R7, R8) and the parameters the spec adds for a model (R8, R9). -/

namespace Sys2Proof

/-- R8 `SRC_OVERFLOW`: what the Pulse Source does when it has a word and the queue is full. -/
inductive SrcOverflow where
  | dropNew
  | stall
  deriving DecidableEq, Repr

/-- The parameters of R8 that an instance may choose. They are operands of `RESET` "for a model" (R210) and constant between
two `RESET`s. -/
structure Config where
  /-- `ACC_DEPTH`, the capacity of the accumulator and of the command buffer. -/
  accDepth : Nat
  /-- `SRC_FIFO_DEPTH`, the capacity of the source queue. OPEN in the spec. -/
  srcFifoDepth : Nat
  /-- `SRC_OVERFLOW`. OPEN in the spec. -/
  srcOverflow : SrcOverflow
  /-- `CMD_RESET`, the command code after reset. -/
  cmdReset : Word
  /-- `POLL_ATOMIC`: `true` for the hardware block, `false` for the split poll of R165. -/
  pollAtomic : Bool
  /-- `ACQ_TICK_HZ`. OPEN in the spec and read by no rule. -/
  acqTickHz : Nat
  deriving DecidableEq, Repr

namespace Config

/-- R7: expected first value of a command or repeat burst. -/
def tStartMark : Nat := 9000
/-- R7: expected second value of a command burst. -/
def tStartSpace : Nat := 4500
/-- R7: expected second value of a repeat burst. -/
def tRepeatSpace : Nat := 2250
/-- R7: expected first value of every data pair, and second value of a `0` pair. -/
def tBit : Nat := 560
/-- R7: expected second value of a `1` pair. -/
def tOneSpace : Nat := 1680
/-- R7: a data pair whose sum exceeds it is held to be a `1`. -/
def sumThreshold : Nat := 1680
/-- R7: multiplier of the tick-to-microsecond conversion. -/
def usScale : Nat := 2000000
/-- R7: the command code that means "repeat, code suppressed". -/
def repeatSentinel : Word := 0xFFFFFFFF#32
/-- R8 and decision D4: the source word that ends a burst. -/
def timeoutMarker : Word := 0xFFFFFFFF#32
/-- R8: width in bits that holds any converted microsecond value. -/
def usW : Nat := 53

/-- The constraints of R9 and R8 on an instance, but the one on `F_SRC`, which the type `Freq` carries. -/
def valid (c : Config) : Bool :=
  decide (34 ≤ c.accDepth) && decide (c.accDepth ≤ 67) && decide (1 ≤ c.srcFifoDepth)

/-- The instance `State.reset` stands for. `accDepth`, `cmdReset` and `pollAtomic` are the spec's defaults (R8).
DESIGN CHOICE (unsafe; log 9): `srcFifoDepth`, `srcOverflow` and `acqTickHz` are OPEN in the spec. -/
def default : Config where
  accDepth := 67
  srcFifoDepth := 128
  srcOverflow := .stall
  cmdReset := 0x00000000#32
  pollAtomic := true
  acqTickHz := 4000

end Config

end Sys2Proof
end

