-- ==== Sys2Proof/Syntax.lean ====
section
/-! DEFINITION. The 32 rows of `spec/opcode_table.json` as one inductive type, the requests that carry them, and the names of
statuses, failures and decoding errors. -/

namespace Sys2Proof

/-- The five kinds of failure (R180). -/
inductive Failure where
  | insufficientData
  | invalidStartSequence
  | invalidZeroBit
  | invalidOneBit
  | invalidRepeatFrame
  deriving DecidableEq, Repr

/-- The `status` of the reply of `POLL` (R78). -/
inductive Status where
  | okCommand
  | okRepeat
  | noBurst
  | failed (f : Failure)
  deriving DecidableEq, Repr

/-- The kind of a burst, of its buffer and of its ready flag (R72, R59). -/
inductive BurstKind where
  | command
  | repeated
  deriving DecidableEq, Repr

/-- One constructor per row of `spec/opcode_table.json`, in the table's order. -/
inductive Instr where
  /-- `TIMEOUT`: the source word that ends a burst (R70, R105 to R108). -/
  | timeout
  /-- `TICK`: a source word that is a tick count (R70, R104). -/
  | tick (t : Word)
  /-- `START`: the start pair of a command burst (R75, R132). -/
  | start (p1 p2 : Nat)
  /-- `ZERO`: a data pair that is a `0` (R75, R135). -/
  | zero (p1 p2 : Nat)
  /-- `ONE`: a data pair that is a `1` (R75, R134). -/
  | one (p1 p2 : Nat)
  /-- `REPEAT`: the pair of a repeat burst (R75, R152). -/
  | repeatPair (p1 p2 : Nat)
  /-- `ENV_PUSH` (R102). -/
  | envPush (w : Word)
  /-- `ACQ_WORD` (R103). -/
  | acqWord
  /-- `APPEND` (R104). -/
  | append (w : Word)
  /-- `FINALIZE` (R105 to R108). -/
  | finalize
  /-- `ACQ_TICK` (R110). -/
  | acqTick
  /-- `to_us` (R71). -/
  | toUs (t : Word)
  /-- `match` (R120). -/
  | matchTest (v e : Nat)
  /-- `is_zero` (R121). -/
  | isZero (p1 p2 : Nat)
  /-- `is_one` (R122). -/
  | isOne (p1 p2 : Nat)
  /-- `FRAME_DECODE` (R130). -/
  | frameDecode (b : List Nat)
  /-- `REPEAT_HANDLE` (R150). -/
  | repeatHandle (b : List Nat)
  /-- `POLL` (R160). -/
  | poll
  /-- `POLL_A` (R165). -/
  | pollA
  /-- `POLL_B` (R165). -/
  | pollB
  /-- `READ_CODE` (R166). -/
  | readCode
  /-- `TAKE` (R59). -/
  | take (kind : BurstKind)
  /-- `RESET` (R210) with its operands `PIN`, `REPEAT_POLICY`, `F_SRC` and the parameters of R8. -/
  | reset (pin : Nat) (policy : Bool) (fSrc : Nat) (cfg : Config)
  /-- `OK_COMMAND`, status 0 (R78, R161). -/
  | okCommand
  /-- `OK_REPEAT`, status 1 (R78, R162). -/
  | okRepeat
  /-- `NO_BURST`, status 2 (R78, R163). -/
  | noBurst
  /-- `InsufficientData`, status 3 (R181). -/
  | insufficientData
  /-- `InvalidStartSequence`, status 4 (R182). -/
  | invalidStartSequence
  /-- `InvalidZeroBit`, status 5 (R183). -/
  | invalidZeroBit
  /-- `InvalidOneBit`, status 6 (R184). -/
  | invalidOneBit
  /-- `InvalidRepeatFrame`, status 7 (R185). -/
  | invalidRepeatFrame
  /-- `REPEAT_SENTINEL`: the reserved value of `command_code` (R77, R153). -/
  | repeatSentinel
  deriving DecidableEq, Repr

/-- What selects an operation. "There is no opcode field anywhere, an operation is chosen by which port group is used"
(R82). The first five are port groups of R10; the next three are steps of R5 that R10 gives no port group of their own; the
rest stand for the rows that are words, symbols, replies, functions and sub-operations.
DESIGN CHOICE (log 2): the spec gives these rows no encoding, so the selectors are the model's. -/
inductive Channel where
  | src
  | acqTick
  | poll
  | commandCode
  | rst
  | acqWord
  | pollA
  | pollB
  | sourceWord
  | startPair
  | dataPair
  | repeatPair
  | status
  | codeValue
  | append
  | finalize
  | toUs
  | matchTest
  | isZero
  | isOne
  | frameDecode
  | repeatHandle
  | take
  deriving DecidableEq, Repr

/-- One use of a channel with the values it carries, undecoded. -/
structure Request where
  channel : Channel
  data : List Nat
  deriving DecidableEq, Repr

/-- Why a request is not an instruction. Safe: the block's ports cannot carry such a value. -/
inductive DecodeError where
  /-- The channel carries another number of values. -/
  | wrongArity (c : Channel)
  /-- A source word or code of more than 32 bits. -/
  | wordTooWide
  /-- A microsecond value of more than `US_W` bits. -/
  | microsTooWide
  /-- The timeout marker where a tick count is carried (R70, R104). -/
  | markerAsTick
  /-- An expected duration that is none of the five constants of R120. -/
  | unknownExpected
  /-- A status of more than 3 bits (R78). -/
  | statusTooWide
  /-- A value of the command code that is not the reserved sentinel (R77): it is no row of the table. -/
  | notSentinel
  /-- A one-bit value that is neither 0 nor 1. -/
  | notABit
  deriving DecidableEq, Repr

/-- The agents of R5. -/
inductive Agent where
  | env
  | acq
  | app
  | rst
  deriving DecidableEq, Repr

/-- Which agent takes the instruction as a step of its own (R5, R82). `none` for a row that is a word class, a symbol, a
function, a sub-operation, a reply or a reserved value: no agent of the block takes it alone (DESIGN CHOICE, safe; log 5: the
model runs it as a step all the same). -/
def Instr.agent : Instr → Option Agent
  | .envPush _ => some .env
  | .acqWord => some .acq
  | .acqTick => some .acq
  | .poll => some .app
  | .pollA => some .app
  | .pollB => some .app
  | .readCode => some .app
  | .reset _ _ _ _ => some .rst
  | .timeout => none
  | .tick _ => none
  | .start _ _ => none
  | .zero _ _ => none
  | .one _ _ => none
  | .repeatPair _ _ => none
  | .append _ => none
  | .finalize => none
  | .toUs _ => none
  | .matchTest _ _ => none
  | .isZero _ _ => none
  | .isOne _ _ => none
  | .frameDecode _ => none
  | .repeatHandle _ => none
  | .take _ => none
  | .okCommand => none
  | .okRepeat => none
  | .noBurst => none
  | .insufficientData => none
  | .invalidStartSequence => none
  | .invalidZeroBit => none
  | .invalidOneBit => none
  | .invalidRepeatFrame => none
  | .repeatSentinel => none

end Sys2Proof
end

