-- ==== Sys2Proof/Machine/Operands.lean ====
section
/-! DEFINITION. The pure functions on operands: the match test and its combinations (R120 to R124, R132, R152), the
conversion (R71), the word classes (R70), the bit index of a data pair (R76) and the numeric status codes (R78). -/

namespace Sys2Proof.Machine

/-- R11: the absolute difference of naturals. -/
def absDiff (a b : Nat) : Nat := if b ≤ a then a - b else b - a

/-- R120, `match(v, e)`: `5 * |v - e| < v`, strict; the tolerance scales with the observed value. -/
def matchesExpected (v e : Nat) : Bool := decide (5 * absDiff v e < v)

/-- R121, `is_zero(p1, p2)`. -/
def isZeroPair (p1 p2 : Nat) : Bool :=
  matchesExpected p1 Config.tBit && matchesExpected p2 Config.tBit

/-- R122, `is_one(p1, p2)`. -/
def isOnePair (p1 p2 : Nat) : Bool :=
  matchesExpected p1 Config.tBit && matchesExpected p2 Config.tOneSpace

/-- R132: the start is rejected only when both values fail, so it is accepted when either matches. -/
def startAccepted (v0 v1 : Nat) : Bool :=
  matchesExpected v0 Config.tStartMark || matchesExpected v1 Config.tStartSpace

/-- R152: a valid repeat frame needs both values. -/
def repeatValid (v0 v1 : Nat) : Bool :=
  matchesExpected v0 Config.tStartMark && matchesExpected v1 Config.tRepeatSpace

/-- R134: a data pair is held to be a `1` exactly when its sum exceeds the threshold. -/
def heldToBeOne (p1 p2 : Nat) : Bool := decide (Config.sumThreshold < p1 + p2)

/-- R71, `to_us(t)`: the floor of the exact quotient. -/
def toMicros (f : Freq) (t : Word) : Nat := t.toNat * Config.usScale / f.val

/-- R70: the word that ends a burst. -/
def isMarker (w : Word) : Bool := decide (w = Config.timeoutMarker)

/-- R133: the pair index of the walk index. -/
def pairIndex (i : Nat) : Nat := i / 2

/-- R137: the bit `32 - k` of data pair `k` lies in the 32-bit code. -/
def pairInCode (k : Nat) : Bool := decide (1 ≤ k) && decide (k ≤ 32)

/-- R76: the code with only bit `32 - k` set. -/
def codeBit (k : Nat) : Word := 1#32 <<< (32 - k)

/-- R120: "`e`, one of the five constants". -/
def expectedDurations : List Nat := [560, 1680, 2250, 4500, 9000]

/-- R24, R26: a microsecond value of `US_W` bits. -/
def fitsMicros (v : Nat) : Bool := decide (v < 2 ^ Config.usW)

/-- R78: the numeric status. -/
def statusCode : Status → Nat
  | .okCommand => 0
  | .okRepeat => 1
  | .noBurst => 2
  | .failed .insufficientData => 3
  | .failed .invalidStartSequence => 4
  | .failed .invalidZeroBit => 5
  | .failed .invalidOneBit => 6
  | .failed .invalidRepeatFrame => 7

end Sys2Proof.Machine
end

