-- ==== Sys2Proof/WellFormed.lean ====
section
/-! DEFINITION. Which instructions have operands the spec gives their row. -/

namespace Sys2Proof

open Machine

/-- The operands are those of the instruction's row: a tick count is not the marker (R70, R104), a symbol's pair is in the
symbol's windows (R75), an expected duration is one of the five constants (R120), a microsecond value fits in `US_W` bits. -/
def Instr.wellFormed : Instr → Bool
  | .timeout => true
  | .tick t => !isMarker t
  | .start p1 p2 => fitsMicros p1 && fitsMicros p2 && startAccepted p1 p2
  | .zero p1 p2 => isZeroPair p1 p2
  | .one p1 p2 => isOnePair p1 p2
  | .repeatPair p1 p2 => repeatValid p1 p2
  | .envPush _ => true
  | .acqWord => true
  | .append w => !isMarker w
  | .finalize => true
  | .acqTick => true
  | .toUs _ => true
  | .matchTest v e => fitsMicros v && decide (e ∈ expectedDurations)
  | .isZero p1 p2 => fitsMicros p1 && fitsMicros p2
  | .isOne p1 p2 => fitsMicros p1 && fitsMicros p2
  | .frameDecode b => b.all fitsMicros
  | .repeatHandle b => b.all fitsMicros
  | .poll => true
  | .pollA => true
  | .pollB => true
  | .readCode => true
  | .take _ => true
  | .reset _ _ _ _ => true
  | .okCommand => true
  | .okRepeat => true
  | .noBurst => true
  | .insufficientData => true
  | .invalidStartSequence => true
  | .invalidZeroBit => true
  | .invalidOneBit => true
  | .invalidRepeatFrame => true
  | .repeatSentinel => true

end Sys2Proof
end

