-- ==== Sys2Proof/Decode.lean ====
section
/-! DEFINITION. From a request to an instruction, total and rejecting by name; then the encoder; then the words of
`spec/opcode_table.json`. -/

namespace Sys2Proof

open Machine

/-- A channel that carries no value. -/
def noValue (r : Request) (i : Instr) : Except DecodeError Instr :=
  match r.data with
  | [] => .ok i
  | _ => .error (.wrongArity r.channel)

/-- A channel that carries one value. -/
def oneValue (r : Request) (f : Nat → Except DecodeError Instr) : Except DecodeError Instr :=
  match r.data with
  | [n] => f n
  | _ => .error (.wrongArity r.channel)

/-- A channel that carries two values. -/
def twoValues (r : Request) (f : Nat → Nat → Except DecodeError Instr) : Except DecodeError Instr :=
  match r.data with
  | [m, n] => f m n
  | _ => .error (.wrongArity r.channel)

/-- A 32-bit word. -/
def asWord (n : Nat) (f : Word → Except DecodeError Instr) : Except DecodeError Instr :=
  if n < 2 ^ 32 then f (BitVec.ofNat 32 n) else .error .wordTooWide

/-- A tick count: a word that is not the marker (R70). -/
def asTick (n : Nat) (f : Word → Instr) : Except DecodeError Instr :=
  asWord n fun w => if isMarker w then .error .markerAsTick else .ok (f w)

/-- A microsecond value of `US_W` bits. -/
def asMicros (v : Nat) (f : Nat → Except DecodeError Instr) : Except DecodeError Instr :=
  if fitsMicros v then f v else .error .microsTooWide

/-- A pair of microsecond values. -/
def asPair (r : Request) (f : Nat → Nat → Instr) : Except DecodeError Instr :=
  twoValues r fun p1 p2 => asMicros p1 fun p1 => asMicros p2 fun p2 => .ok (f p1 p2)

/-- A burst of microsecond values. -/
def asBurst (r : Request) (f : List Nat → Instr) : Except DecodeError Instr :=
  if r.data.all fitsMicros then .ok (f r.data) else .error .microsTooWide

/-- A one-bit value. -/
def asBit (n : Nat) (f : Bool → Except DecodeError Instr) : Except DecodeError Instr :=
  match n with
  | 0 => f false
  | 1 => f true
  | _ => .error .notABit

/-- R70: a word of the source queue is the timeout marker or a tick count. -/
def decodeSourceWord (w : Word) : Instr :=
  if isMarker w then .timeout else .tick w

/-- R132: the first two values of a command burst, `START` or the failure. -/
def decodeStartPair (v0 v1 : Nat) : Instr :=
  if startAccepted v0 v1 then .start v0 v1 else .invalidStartSequence

/-- R134, R135: a data pair is first sorted by its sum, then tested. -/
def decodeDataPair (p1 p2 : Nat) : Instr :=
  if heldToBeOne p1 p2 then
    if isOnePair p1 p2 then .one p1 p2 else .invalidOneBit
  else
    if isZeroPair p1 p2 then .zero p1 p2 else .invalidZeroBit

/-- R152, R154: the pair of a repeat burst, `REPEAT` or the failure. -/
def decodeRepeatPair (v0 v1 : Nat) : Instr :=
  if repeatValid v0 v1 then .repeatPair v0 v1 else .invalidRepeatFrame

/-- R78: the three-bit status. -/
def decodeStatus (n : Nat) : Except DecodeError Instr :=
  match n with
  | 0 => .ok .okCommand
  | 1 => .ok .okRepeat
  | 2 => .ok .noBurst
  | 3 => .ok .insufficientData
  | 4 => .ok .invalidStartSequence
  | 5 => .ok .invalidZeroBit
  | 6 => .ok .invalidOneBit
  | 7 => .ok .invalidRepeatFrame
  | _ => .error .statusTooWide

/-- The operands of `RESET` in order: `PIN`, `REPEAT_POLICY`, `F_SRC`, then the parameters of R8. -/
def decodeReset (r : Request) : Except DecodeError Instr :=
  match r.data with
  | [pin, policy, fSrc, accDepth, fifoDepth, overflow, cmdReset, atomic, hz] =>
    asBit policy fun policy =>
      asBit overflow fun stall =>
        asWord cmdReset fun code =>
          asBit atomic fun atomic =>
            .ok (.reset pin policy fSrc
              { accDepth := accDepth, srcFifoDepth := fifoDepth,
                srcOverflow := if stall then .stall else .dropNew,
                cmdReset := code, pollAtomic := atomic, acqTickHz := hz })
  | _ => .error (.wrongArity r.channel)

/-- The decoder: total on every request. -/
def decode (r : Request) : Except DecodeError Instr :=
  match r.channel with
  | .src => oneValue r fun n => asWord n fun w => .ok (.envPush w)
  | .acqTick => noValue r .acqTick
  | .poll => noValue r .poll
  | .commandCode => noValue r .readCode
  | .rst => decodeReset r
  | .acqWord => noValue r .acqWord
  | .pollA => noValue r .pollA
  | .pollB => noValue r .pollB
  | .sourceWord => oneValue r fun n => asWord n fun w => .ok (decodeSourceWord w)
  | .startPair => asPair r decodeStartPair
  | .dataPair => asPair r decodeDataPair
  | .repeatPair => asPair r decodeRepeatPair
  | .status => oneValue r decodeStatus
  | .codeValue => oneValue r fun n => asWord n fun w =>
      if w = Config.repeatSentinel then .ok .repeatSentinel else .error .notSentinel
  | .append => oneValue r fun n => asTick n .append
  | .finalize => noValue r .finalize
  | .toUs => oneValue r fun n => asWord n fun w => .ok (.toUs w)
  | .matchTest => twoValues r fun v e => asMicros v fun v =>
      if e ∈ expectedDurations then .ok (.matchTest v e) else .error .unknownExpected
  | .isZero => asPair r .isZero
  | .isOne => asPair r .isOne
  | .frameDecode => asBurst r .frameDecode
  | .repeatHandle => asBurst r .repeatHandle
  | .take => oneValue r fun n => asBit n fun rep => .ok (.take (if rep then .repeated else .command))

/-- The encoder: the request that carries an instruction. A source word is itself (R70), a symbol is its pair (R75), a
status is its number (R78), the sentinel is its value (R77). -/
def encode : Instr → Request
  | .timeout => ⟨.sourceWord, [Config.timeoutMarker.toNat]⟩
  | .tick t => ⟨.sourceWord, [t.toNat]⟩
  | .start p1 p2 => ⟨.startPair, [p1, p2]⟩
  | .zero p1 p2 => ⟨.dataPair, [p1, p2]⟩
  | .one p1 p2 => ⟨.dataPair, [p1, p2]⟩
  | .repeatPair p1 p2 => ⟨.repeatPair, [p1, p2]⟩
  | .envPush w => ⟨.src, [w.toNat]⟩
  | .acqWord => ⟨.acqWord, []⟩
  | .append w => ⟨.append, [w.toNat]⟩
  | .finalize => ⟨.finalize, []⟩
  | .acqTick => ⟨.acqTick, []⟩
  | .toUs t => ⟨.toUs, [t.toNat]⟩
  | .matchTest v e => ⟨.matchTest, [v, e]⟩
  | .isZero p1 p2 => ⟨.isZero, [p1, p2]⟩
  | .isOne p1 p2 => ⟨.isOne, [p1, p2]⟩
  | .frameDecode b => ⟨.frameDecode, b⟩
  | .repeatHandle b => ⟨.repeatHandle, b⟩
  | .poll => ⟨.poll, []⟩
  | .pollA => ⟨.pollA, []⟩
  | .pollB => ⟨.pollB, []⟩
  | .readCode => ⟨.commandCode, []⟩
  | .take .command => ⟨.take, [0]⟩
  | .take .repeated => ⟨.take, [1]⟩
  | .reset pin policy fSrc cfg =>
    ⟨.rst, [pin, policy.toNat, fSrc, cfg.accDepth, cfg.srcFifoDepth,
      (match cfg.srcOverflow with | .dropNew => 0 | .stall => 1),
      cfg.cmdReset.toNat, cfg.pollAtomic.toNat, cfg.acqTickHz]⟩
  | .okCommand => ⟨.status, [statusCode .okCommand]⟩
  | .okRepeat => ⟨.status, [statusCode .okRepeat]⟩
  | .noBurst => ⟨.status, [statusCode .noBurst]⟩
  | .insufficientData => ⟨.status, [statusCode (.failed .insufficientData)]⟩
  | .invalidStartSequence => ⟨.status, [statusCode (.failed .invalidStartSequence)]⟩
  | .invalidZeroBit => ⟨.status, [statusCode (.failed .invalidZeroBit)]⟩
  | .invalidOneBit => ⟨.status, [statusCode (.failed .invalidOneBit)]⟩
  | .invalidRepeatFrame => ⟨.status, [statusCode (.failed .invalidRepeatFrame)]⟩
  | .repeatSentinel => ⟨.codeValue, [Config.repeatSentinel.toNat]⟩

/-- The request that carries a word of `spec/opcode_table.json`: 32 bits are a source word (R70), a byte or less is a status
(R78, three bits). DEDUCED (log 14): `TIMEOUT` and `REPEAT_SENTINEL` have the same 32 bits; a word that comes in is the former. -/
def tableRequest (nbits w : Nat) : Option Request :=
  match nbits with
  | 32 => some ⟨.sourceWord, [w]⟩
  | 8 => some ⟨.status, [w]⟩
  | 3 => some ⟨.status, [w]⟩
  | _ => none

/-- The instruction the decoder reads from a word of `spec/opcode_table.json`. -/
def decodeTableWord (nbits w : Nat) : Option Instr :=
  match tableRequest nbits w with
  | some r => (decode r).toOption
  | none => none

end Sys2Proof
end

