-- ==== Sys2Proof/Machine/State.lean ====
section
/-! DEFINITION. The state of the block (R20, R32), the parameters it was built with, the model's own fields, its reset value,
and the reasons a step can stop. -/

namespace Sys2Proof.Machine

/-- R37: where a split `POLL` stands. -/
inductive PollPhase where
  | idle
  | repeatCheck
  deriving DecidableEq, Repr

/-- R33: the working values of the frame state machine, the walk index `i` and the code under assembly. The spec says they
are not state of the block; the model holds them for the rows that are one symbol of a frame (log 6). -/
structure FrameWalk where
  i : Nat
  codeAcc : Word
  deriving DecidableEq, Repr

/-- What a step puts on its port. R32: the reply of `POLL` "is an output of that step and is not held in any register between
steps": every step writes the field and none reads it (log 3). -/
inductive Output where
  /-- The step has no output. -/
  | silent
  /-- The step's `require` does not hold: nothing was done (R16, log 4). -/
  | notEnabled
  /-- The reply of `POLL` (R78). -/
  | reply (newCode : Bool) (status : Status)
  /-- The value of `READ_CODE` (R166). -/
  | code (w : Word)
  /-- The result of `to_us`. -/
  | micros (u : Nat)
  /-- The result of `match`, `is_zero` or `is_one`. -/
  | truth (b : Bool)
  /-- The copied burst of `TAKE`. -/
  | burst (b : List Nat)
  /-- `Ok(code)` of `FRAME_DECODE`. -/
  | frameOk (w : Word)
  /-- `Ok` of `REPEAT_HANDLE`. -/
  | repeatOk
  /-- A failure of a sub-operation (R15, `raise F`). -/
  | raised (f : Failure)
  deriving DecidableEq, Repr

/-- The result of `FRAME_DECODE` (R130), with the case that R137 orders to be a fault. -/
inductive FrameResult where
  | ok (code : Word)
  | raised (f : Failure)
  | bitIndexOutsideCode
  deriving DecidableEq, Repr

structure State where
  /-- R21: the source queue, oldest word first. -/
  srcq : List Word
  /-- R22: the accumulator, raw tick counts in arrival order. -/
  acc : List Word
  /-- R23: the burst being received had more than `ACC_DEPTH` values. -/
  accOvf : Bool
  /-- R24: the pending command burst. -/
  cmdBuf : List Nat
  /-- R25: `cmdBuf` holds a burst no poll has taken. -/
  cmdReady : Bool
  /-- R26: the pending repeat burst. -/
  repBuf : List Nat
  /-- R27: `repBuf` holds a burst no poll has taken. -/
  repReady : Bool
  /-- R28: the latest decoded command code. -/
  commandCode : Word
  /-- R37: where a split `POLL` stands. -/
  pollPhase : PollPhase
  /-- R32 `repeat_policy`. -/
  repeatPolicy : Bool
  /-- R32 `f_src`. -/
  fSrc : Freq
  /-- R32 `pin`; read by no rule (log 16). -/
  pin : Nat
  /-- R8: the other parameters of the instance. -/
  cfg : Config
  /-- The model's own: the working values of a frame decoded a symbol at a time (log 6). -/
  frame : FrameWalk
  /-- The model's own: the port uses still to come, oldest first (log 1). -/
  requests : List Request
  /-- The model's own: what the last step put on its port (log 3). -/
  out : Output
  deriving DecidableEq, Repr

/-- Why the machine stops with a fault. -/
inductive Fault where
  /-- A data pair whose bit index `32 - k` lies outside the 32-bit code: the 33rd pair of a walk (R137, U14 order a fault).
  Raised by `FRAME_DECODE`, `POLL`, `POLL_A`, `ZERO` and `ONE`. Safe. -/
  | bitIndexOutsideCode
  deriving DecidableEq, Repr

/-- Why a request has no meaning. -/
inductive Refusal where
  /-- The instruction has no meaning yet. Safe. -/
  | notModelled (mnemonic : String)
  /-- `RESET` with parameters that R9 forbids: "a model refuses an instance that breaks either". Safe. -/
  | invalidInstance
  /-- The request is no instruction: no port carries it. Raised by the step. Safe. -/
  | undecodable (e : DecodeError)
  deriving DecidableEq, Repr

/-- The frame state machine at the start of a walk (R133). -/
def FrameWalk.initial : FrameWalk := ⟨2, 0#32⟩

/-- R210: every element of the state at its reset value, with the parameters given. -/
def State.built (pin : Nat) (policy : Bool) (fSrc : Freq) (cfg : Config) : State where
  srcq := []
  acc := []
  accOvf := false
  cmdBuf := []
  cmdReady := false
  repBuf := []
  repReady := false
  commandCode := cfg.cmdReset
  pollPhase := .idle
  repeatPolicy := policy
  fSrc := fSrc
  pin := pin
  cfg := cfg
  frame := FrameWalk.initial
  requests := []
  out := .silent

/-- The machine right after `RESET`. DESIGN CHOICE (unsafe; log 10): the parameters are "as given at RESET" in the spec; here
`PIN` 0, `REPEAT_POLICY` false, `F_SRC` 256000 (the document's example) and `Config.default`. -/
def State.reset : State := State.built 0 false ⟨256000, by decide⟩ Config.default

end Sys2Proof.Machine
end

