-- ==== Sys2Proof/Machine/Flags.lean ====
section
/-! DEFINITION. The three flags of the block (R31), each set or cleared together with what it stands for (R57, R59), and the
other named updates of State. -/

namespace Sys2Proof.Machine

/-- What the step put on its port. -/
def State.emit (o : Output) (s : State) : State := { s with out := o }

/-- R102: a word at the tail of the source queue. -/
def State.pushWord (w : Word) (s : State) : State := { s with srcq := s.srcq ++ [w] }

/-- R103: the source queue after its head is removed. -/
def State.setSrcq (q : List Word) (s : State) : State := { s with srcq := q }

/-- R104: a tick count at the tail of the accumulator. -/
def State.appendAcc (w : Word) (s : State) : State := { s with acc := s.acc ++ [w] }

/-- R104, R31: `acc_ovf <- 1`. -/
def State.markOverflow (s : State) : State := { s with accOvf := true }

/-- R108, R31: `acc <- []; acc_ovf <- 0`. -/
def State.clearAcc (s : State) : State := { s with acc := [], accOvf := false }

/-- R57: the store of a burst and the raising of its flag, one unit. -/
def State.storeBurst (kind : BurstKind) (us : List Nat) (s : State) : State :=
  match kind with
  | .command => { s with cmdBuf := us, cmdReady := true }
  | .repeated => { s with repBuf := us, repReady := true }

/-- R59: the value `TAKE` copies to `work`. -/
def State.pending (kind : BurstKind) (s : State) : List Nat :=
  match kind with
  | .command => s.cmdBuf
  | .repeated => s.repBuf

/-- R59: `buf <- []; flag <- 0`, one unit. -/
def State.takeBurst (kind : BurstKind) (s : State) : State :=
  match kind with
  | .command => { s with cmdBuf := [], cmdReady := false }
  | .repeated => { s with repBuf := [], repReady := false }

/-- R162: the cross-kind clear; only the flag is cleared. -/
def State.clearCmdReady (s : State) : State := { s with cmdReady := false }

/-- R28: the write of the command code. -/
def State.setCode (w : Word) (s : State) : State := { s with commandCode := w }

/-- R165: where a split `POLL` stands. -/
def State.setPhase (p : PollPhase) (s : State) : State := { s with pollPhase := p }

/-- R33: the working values of the frame state machine. -/
def State.setFrame (f : FrameWalk) (s : State) : State := { s with frame := f }

/-- The port uses still to come. -/
def State.setRequests (rs : List Request) (s : State) : State := { s with requests := rs }

end Sys2Proof.Machine
end

