-- ==== Sys2Proof/Machine/Ops.lean ====
section
/-! DEFINITION. The shared operations: acquisition of a word, the frame decoder, the repeat handler, the failure of a poll and
the paths of `POLL`. -/

namespace Sys2Proof.Machine

/-- The outcome of a meaning. -/
abbrev Result := Host.Outcome State Fault Refusal

/-- A step whose `require` does not hold: "the agent has no such step (it is not a fault)" (R16). DESIGN CHOICE (log 4): the
request is used up and nothing else changes. -/
def notEnabled (s : State) : Result := .next (s.emit .notEnabled)

/-- R104, `APPEND(w)`. -/
def appendTick (w : Word) (s : State) : State :=
  if s.acc.length < s.cfg.accDepth then s.appendAcc w else s.markOverflow

/-- R112: every accumulated tick count, converted on its own. -/
def convertBurst (s : State) : List Nat := s.acc.map (toMicros s.fSrc)

/-- R105 to R107: where a finished burst goes, by its length alone (R72). -/
def storeByLength (us : List Nat) (s : State) : State :=
  if us.length = 2 then s.storeBurst .repeated us
  else if 2 < us.length then s.storeBurst .command us
  else s

/-- R105 to R108, `FINALIZE`. -/
def finalizeBurst (s : State) : State :=
  (if s.accOvf then s else storeByLength (convertBurst s) s).clearAcc

/-- R103: what the block does on one source word. -/
def acquireWord (w : Word) (s : State) : State :=
  if isMarker w then finalizeBurst s else appendTick w s

/-- R110: the words of the queue, one `ACQ_WORD` after the other until it is empty. -/
def drainWords : List Word → State → State
  | [], s => s
  | w :: rest, s => drainWords rest (acquireWord w (s.setSrcq rest))

/-- R134: a pair held to be a `1`. R137: outside the code it is a fault (DEDUCED for a symbol of its own, safe; log 21). -/
def heldOne (k : Nat) (codeAcc : Word) (p1 p2 : Nat) : FrameResult :=
  if pairInCode k then
    if isOnePair p1 p2 then .ok (codeAcc ||| codeBit k) else .raised .invalidOneBit
  else .bitIndexOutsideCode

/-- R135: a pair held to be a `0`. -/
def heldZero (k : Nat) (codeAcc : Word) (p1 p2 : Nat) : FrameResult :=
  if pairInCode k then
    if isZeroPair p1 p2 then .ok codeAcc else .raised .invalidZeroBit
  else .bitIndexOutsideCode

/-- R134, R135: the predicate is chosen by the pair's sum. -/
def decodePair (k : Nat) (codeAcc : Word) (p1 p2 : Nat) : FrameResult :=
  if heldToBeOne p1 p2 then heldOne k codeAcc p1 p2 else heldZero k codeAcc p1 p2

/-- R133: the walk over the data pairs from pair index `k` on; a value without a partner is not read (R53).
DEDUCED (safe; log 24): a recursion over the list in place of the index loop. -/
def walkPairs : List Nat → Nat → Word → FrameResult
  | p1 :: p2 :: rest, k, codeAcc =>
    match decodePair k codeAcc p1 p2 with
    | .ok codeAcc' => walkPairs rest (k + 1) codeAcc'
    | .raised f => .raised f
    | .bitIndexOutsideCode => .bitIndexOutsideCode
  | [_], _, codeAcc => .ok codeAcc
  | [], _, codeAcc => .ok codeAcc

/-- R130, `FRAME_DECODE(b)`: length (R131), start (R132), walk (R133), completion (R136). -/
def decodeFrame (b : List Nat) : FrameResult :=
  match b with
  | v0 :: v1 :: rest =>
    if startAccepted v0 v1 then walkPairs rest 1 0#32 else .raised .invalidStartSequence
  | [_] => .raised .insufficientData
  | [] => .raised .insufficientData

/-- R153: the repeat policy on a valid repeat. -/
def applyRepeatPolicy (s : State) : State :=
  if s.repeatPolicy then s else s.setCode Config.repeatSentinel

/-- R151, R152, R154: the failure of a repeat burst, if any. Values beyond index 1 are not read. -/
def repeatFailure (b : List Nat) : Option Failure :=
  match b with
  | v0 :: v1 :: _ => if repeatValid v0 v1 then none else some .invalidRepeatFrame
  | [_] => some .insufficientData
  | [] => some .insufficientData

/-- R15, `return (b, s)`: the end of a poll with its reply. -/
def replyWith (newCode : Bool) (status : Status) (s : State) : Result :=
  .next (s.emit (.reply newCode status))

/-- R15, R189: a poll that fails ends with the reply `(false, F)` and writes nothing more. The block's one exception entry:
nothing is saved, no mode changes, and there is no return (R190). -/
def failPoll (f : Failure) (s : State) : Result := replyWith false (.failed f) s

/-- R161: the command path of `POLL`. -/
def commandPath (s : State) : Result :=
  match decodeFrame (s.pending .command) with
  | .ok code => replyWith true .okCommand ((s.takeBurst .command).setCode code)
  | .raised f => failPoll f (s.takeBurst .command)
  | .bitIndexOutsideCode => .fault .bitIndexOutsideCode

/-- R162: the repeat path of `POLL`, with its cross-kind clear. -/
def repeatPath (s : State) : Result :=
  match repeatFailure (s.pending .repeated) with
  | none => replyWith true .okRepeat (applyRepeatPolicy (s.takeBurst .repeated).clearCmdReady)
  | some f => failPoll f (s.takeBurst .repeated).clearCmdReady

/-- R162, R163: what `POLL` does when no command burst is ready. -/
def repeatOrIdle (s : State) : Result :=
  if s.repReady then repeatPath s else replyWith false .noBurst s

/-- R160: one `POLL`, whole. -/
def pollWhole (s : State) : Result :=
  if s.cmdReady then commandPath s else repeatOrIdle s

/-- One symbol of a frame: the result of its pair is kept in the working values, or the failure is the output. -/
def keepPair (r : FrameResult) (s : State) : Result :=
  match r with
  | .ok codeAcc => .next ((s.setFrame ⟨s.frame.i + 2, codeAcc⟩).emit .silent)
  | .raised f => .next (s.emit (.raised f))
  | .bitIndexOutsideCode => .fault .bitIndexOutsideCode

/-- The oldest request, and the state with it used up. -/
def nextRequest (s : State) : Option (Request × State) :=
  match s.requests with
  | [] => none
  | r :: rest => some (r, s.setRequests rest)

/-- `s` with the request as its next one. -/
def placeRequest (r : Request) (s : State) : State := s.setRequests (r :: s.requests)

end Sys2Proof.Machine
end

