-- ==== Sys2Proof/Machine/Acquisition.lean ====
section
/-! DEFINITION. The source words and the Pulse Acquisition Buffer: `TIMEOUT`, `TICK`, `ENV_PUSH`, `ACQ_WORD`, `APPEND`,
`FINALIZE`, `ACQ_TICK` (R100 to R113). -/

namespace Sys2Proof.Machine

/-- `TIMEOUT` (R70, R105 to R108): the marker ends the burst. -/
def execTimeout (s : State) : Result := .next ((finalizeBurst s).emit .silent)

/-- `TICK` (R70, R104): a tick count joins the burst. -/
def execTick (t : Word) (s : State) : Result := .next ((appendTick t s).emit .silent)

/-- `ENV_PUSH(w)` (R102). Under `drop_new` a full queue admits the second form of the step, which changes nothing. -/
def execEnvPush (w : Word) (s : State) : Result :=
  if s.srcq.length < s.cfg.srcFifoDepth then .next ((s.pushWord w).emit .silent)
  else if s.srcq.length = s.cfg.srcFifoDepth ∧ s.cfg.srcOverflow = .dropNew then .next (s.emit .silent)
  else notEnabled s

/-- `ACQ_WORD` (R103). -/
def execAcqWord (s : State) : Result :=
  match s.srcq with
  | [] => notEnabled s
  | w :: rest => .next ((acquireWord w (s.setSrcq rest)).emit .silent)

/-- `APPEND(w)` (R104). -/
def execAppend (w : Word) (s : State) : Result := .next ((appendTick w s).emit .silent)

/-- `FINALIZE` (R105 to R108). -/
def execFinalize (s : State) : Result := .next ((finalizeBurst s).emit .silent)

/-- `ACQ_TICK` (R110). -/
def execAcqTick (s : State) : Result := .next ((drainWords s.srcq s).emit .silent)

end Sys2Proof.Machine
end

