-- ==== Sys2Proof/Machine/BitClassifier.lean ====
section
/-! DEFINITION. The pure functions as steps of their own: `to_us`, `match`, `is_zero`, `is_one` (R71, R120 to R122). They
write no state of the block; the result is the output. -/

namespace Sys2Proof.Machine

/-- `to_us(t)` (R71). -/
def execToUs (t : Word) (s : State) : Result := .next (s.emit (.micros (toMicros s.fSrc t)))

/-- `match(v, e)` (R120). -/
def execMatchTest (v e : Nat) (s : State) : Result := .next (s.emit (.truth (matchesExpected v e)))

/-- `is_zero(p1, p2)` (R121). -/
def execIsZero (p1 p2 : Nat) (s : State) : Result := .next (s.emit (.truth (isZeroPair p1 p2)))

/-- `is_one(p1, p2)` (R122). -/
def execIsOne (p1 p2 : Nat) (s : State) : Result := .next (s.emit (.truth (isOnePair p1 p2)))

end Sys2Proof.Machine
end

