-- ==== Sys2Proof/Machine/Facade.lean ====
section
/-! DEFINITION. The Decoder Facade: `POLL`, `POLL_A`, `POLL_B`, `READ_CODE`, `TAKE` and the replies of `POLL`
(R160 to R168, R59, R78, R180 to R185). -/

namespace Sys2Proof.Machine

/-- `POLL` (R160). With `POLL_ATOMIC = true` it has no `require`; with `false`, "no second POLL starts until POLL_B has
ended" (R165), and `POLL_A` with no step between it and `POLL_B` behaves exactly like the whole `POLL` (DEDUCED; log 13). -/
def execPoll (s : State) : Result :=
  if s.cfg.pollAtomic ∨ s.pollPhase = .idle then pollWhole s else notEnabled s

/-- `POLL_A` (R165), used only when `POLL_ATOMIC = false`. -/
def execPollA (s : State) : Result :=
  if s.cfg.pollAtomic = false ∧ s.pollPhase = .idle then
    if s.cmdReady then commandPath s else .next ((s.setPhase .repeatCheck).emit .silent)
  else notEnabled s

/-- `POLL_B` (R165), used only when `POLL_ATOMIC = false`. -/
def execPollB (s : State) : Result :=
  if s.cfg.pollAtomic = false ∧ s.pollPhase = .repeatCheck then repeatOrIdle (s.setPhase .idle)
  else notEnabled s

/-- `READ_CODE` (R166). -/
def execReadCode (s : State) : Result := .next (s.emit (.code s.commandCode))

/-- `TAKE(buf, flag)` (R59): it always succeeds, also with the flag cleared (DEDUCED, safe; log 22); the copied burst is the
output. -/
def execTake (kind : BurstKind) (s : State) : Result :=
  .next ((s.takeBurst kind).emit (.burst (s.pending kind)))

/-- `OK_COMMAND` (R161, R78): `command_code <- code; return (true, OK_COMMAND)`, with the code the frame's symbols have
assembled (log 7). -/
def execOkCommand (s : State) : Result := replyWith true .okCommand (s.setCode s.frame.codeAcc)

/-- `OK_REPEAT` (R162, R78): `return (true, OK_REPEAT)`. -/
def execOkRepeat (s : State) : Result := replyWith true .okRepeat s

/-- `NO_BURST` (R163, R78): `return (false, NO_BURST)`. -/
def execNoBurst (s : State) : Result := replyWith false .noBurst s

/-- `InsufficientData` (R181). -/
def execInsufficientData (s : State) : Result := failPoll .insufficientData s

/-- `InvalidStartSequence` (R182). -/
def execInvalidStartSequence (s : State) : Result := failPoll .invalidStartSequence s

/-- `InvalidZeroBit` (R183). -/
def execInvalidZeroBit (s : State) : Result := failPoll .invalidZeroBit s

/-- `InvalidOneBit` (R184). -/
def execInvalidOneBit (s : State) : Result := failPoll .invalidOneBit s

/-- `InvalidRepeatFrame` (R185). -/
def execInvalidRepeatFrame (s : State) : Result := failPoll .invalidRepeatFrame s

end Sys2Proof.Machine
end

