-- ==== Sys2Proof/Machine/FrameDecoder.lean ====
section
/-! DEFINITION. The Frame Decoder: `START`, `ZERO`, `ONE` a symbol at a time, and `FRAME_DECODE` whole (R130 to R138). -/

namespace Sys2Proof.Machine

/-- `START` (R132, R133): the start check; when it passes the walk begins with `i = 2` and `code_acc = 0`. -/
def execStart (p1 p2 : Nat) (s : State) : Result :=
  if startAccepted p1 p2 then .next ((s.setFrame FrameWalk.initial).emit .silent)
  else .next (s.emit (.raised .invalidStartSequence))

/-- `ZERO` (R135): the pair at the walk index, held to be a `0`. -/
def execZero (p1 p2 : Nat) (s : State) : Result :=
  keepPair (heldZero (pairIndex s.frame.i) s.frame.codeAcc p1 p2) s

/-- `ONE` (R134): the pair at the walk index, held to be a `1`. -/
def execOne (p1 p2 : Nat) (s : State) : Result :=
  keepPair (heldOne (pairIndex s.frame.i) s.frame.codeAcc p1 p2) s

/-- `FRAME_DECODE(b)` (R130): writes no architectural state; the result is the output. -/
def execFrameDecode (b : List Nat) (s : State) : Result :=
  match decodeFrame b with
  | .ok code => .next (s.emit (.frameOk code))
  | .raised f => .next (s.emit (.raised f))
  | .bitIndexOutsideCode => .fault .bitIndexOutsideCode

end Sys2Proof.Machine
end

