-- ==== Sys2Proof/Machine/RepeatHandler.lean ====
section
/-! DEFINITION. The Repeat Handler: `REPEAT`, `REPEAT_HANDLE`, `REPEAT_SENTINEL` (R150 to R155, R77). -/

namespace Sys2Proof.Machine

/-- `REPEAT` (R152 to R154): the pair of a repeat burst. -/
def execRepeatPair (p1 p2 : Nat) (s : State) : Result :=
  if repeatValid p1 p2 then .next ((applyRepeatPolicy s).emit .repeatOk)
  else .next (s.emit (.raised .invalidRepeatFrame))

/-- `REPEAT_HANDLE(b)` (R150). -/
def execRepeatHandle (b : List Nat) (s : State) : Result :=
  match repeatFailure b with
  | none => .next ((applyRepeatPolicy s).emit .repeatOk)
  | some f => .next (s.emit (.raised f))

/-- `REPEAT_SENTINEL` (R77, R153): the sentinel is written "when REPEAT_POLICY = false", and not under the other policy. -/
def execRepeatSentinel (s : State) : Result := .next ((applyRepeatPolicy s).emit .silent)

end Sys2Proof.Machine
end

