-- ==== Sys2Proof/Machine/ResetUnit.lean ====
section
/-! DEFINITION. `RESET` (R210, R9). -/

namespace Sys2Proof.Machine

/-- `RESET(PIN, REPEAT_POLICY, F_SRC)` with the parameters of R8: every element of the state to its reset value. The
requests still to come are the environment's and stay (DEDUCED, safe; log 19). "A model refuses an instance that breaks
either" constraint (R9; log 20). -/
def execReset (pin : Nat) (policy : Bool) (fSrc : Nat) (cfg : Config) (s : State) : Result :=
  if h : 1 ≤ fSrc then
    if cfg.valid then .next ((State.built pin policy ⟨fSrc, h⟩ cfg).setRequests s.requests)
    else .refused .invalidInstance
  else .refused .invalidInstance

end Sys2Proof.Machine
end

