-- ==== Sys2Proof/Machine/Dispatch.lean ====
section
/-! DEFINITION. The dispatch: one arm per row of `spec/opcode_table.json`. -/

namespace Sys2Proof.Machine

def exec (i : Instr) (s : State) : Host.Outcome State Fault Refusal :=
  match i with
  | .timeout => Sys2Proof.Machine.execTimeout s
  | .tick t => Sys2Proof.Machine.execTick t s
  | .start p1 p2 => Sys2Proof.Machine.execStart p1 p2 s
  | .zero p1 p2 => Sys2Proof.Machine.execZero p1 p2 s
  | .one p1 p2 => Sys2Proof.Machine.execOne p1 p2 s
  | .repeatPair p1 p2 => Sys2Proof.Machine.execRepeatPair p1 p2 s
  | .envPush w => Sys2Proof.Machine.execEnvPush w s
  | .acqWord => Sys2Proof.Machine.execAcqWord s
  | .append w => Sys2Proof.Machine.execAppend w s
  | .finalize => Sys2Proof.Machine.execFinalize s
  | .acqTick => Sys2Proof.Machine.execAcqTick s
  | .toUs t => Sys2Proof.Machine.execToUs t s
  | .matchTest v e => Sys2Proof.Machine.execMatchTest v e s
  | .isZero p1 p2 => Sys2Proof.Machine.execIsZero p1 p2 s
  | .isOne p1 p2 => Sys2Proof.Machine.execIsOne p1 p2 s
  | .frameDecode b => Sys2Proof.Machine.execFrameDecode b s
  | .repeatHandle b => Sys2Proof.Machine.execRepeatHandle b s
  | .poll => Sys2Proof.Machine.execPoll s
  | .pollA => Sys2Proof.Machine.execPollA s
  | .pollB => Sys2Proof.Machine.execPollB s
  | .readCode => Sys2Proof.Machine.execReadCode s
  | .take kind => Sys2Proof.Machine.execTake kind s
  | .reset pin policy fSrc cfg => Sys2Proof.Machine.execReset pin policy fSrc cfg s
  | .okCommand => Sys2Proof.Machine.execOkCommand s
  | .okRepeat => Sys2Proof.Machine.execOkRepeat s
  | .noBurst => Sys2Proof.Machine.execNoBurst s
  | .insufficientData => Sys2Proof.Machine.execInsufficientData s
  | .invalidStartSequence => Sys2Proof.Machine.execInvalidStartSequence s
  | .invalidZeroBit => Sys2Proof.Machine.execInvalidZeroBit s
  | .invalidOneBit => Sys2Proof.Machine.execInvalidOneBit s
  | .invalidRepeatFrame => Sys2Proof.Machine.execInvalidRepeatFrame s
  | .repeatSentinel => Sys2Proof.Machine.execRepeatSentinel s

end Sys2Proof.Machine
end

