-- ==== Sys2Proof/Machine/Step.lean ====
section
/-! DEFINITION. One step of the machine, and how a word of the opcode table is placed for the next step. -/

namespace Sys2Proof.Machine

/-- One step: the oldest request is decoded and run. With no request nothing pushes, ticks or polls, "no step is taken and
all state keeps its value" (R198). The duties of R211 are not enforced (DESIGN CHOICE, safe; log 23). -/
def step (s : State) : Host.Outcome State Fault Refusal :=
  match nextRequest s with
  | none => .next (s.emit .silent)
  | some (r, s') =>
    match decode r with
    | .ok i => exec i s'
    | .error e => .refused (.undecodable e)

/-- `s` with a word of `spec/opcode_table.json` as its next request (log 11): the next step decodes and runs it. A length that
is no length of the table places nothing. -/
def State.withFetchWord (s : State) (nbits w : Nat) : State :=
  match tableRequest nbits w with
  | some r => placeRequest r s
  | none => s

end Sys2Proof.Machine
end

