-- ==== Sys2Proof/Machine/Trace.lean ====
section
/-! DEFINITION. The trace syntax of R81: one line is one or more steps of the agents, with the output the line expects. -/

namespace Sys2Proof.Machine

/-- A line of a trace (R81). -/
inductive TraceLine where
  /-- `RESET policy=<0 or 1> f_src=<n>` -/
  | reset (policy : Bool) (fSrc : Nat)
  /-- `PUSH <word>` -/
  | push (w : Word)
  /-- `TICK` -/
  | tick
  /-- `WORD` -/
  | word
  /-- `POLL -> (<new_code>, <status>)` -/
  | poll (newCode : Bool) (status : Status)
  /-- `POLL_A`, with the reply when it replies itself. -/
  | pollA (reply : Option (Bool × Status))
  /-- `POLL_B -> (<new_code>, <status>)` -/
  | pollB (newCode : Bool) (status : Status)
  /-- `READ -> <value>` -/
  | read (w : Word)
  /-- `BURST <w0> <w1> ...` -/
  | burst (ws : List Word)
  /-- `FRAME bits=<b1 b2 ...>`, used only with `F_SRC = 256000` -/
  | frame (bits : List Bool)
  deriving DecidableEq, Repr

/-- R81: `72 72` for a `0` and `72 215` for a `1`. -/
def bitWords (b : Bool) : List Word := if b then [72#32, 215#32] else [72#32, 72#32]

/-- R81: the tick words of `FRAME`, without the marker. -/
def frameWords (bits : List Bool) : List Word := [1152#32, 576#32] ++ bits.flatMap bitWords

/-- R81: the pushes of `BURST`. -/
def burstPushes (ws : List Word) : List Instr := (ws ++ [Config.timeoutMarker]).map .envPush

/-- The steps of a line. `RESET` takes the parameters the line does not name from the caller. -/
def TraceLine.instrs (pin : Nat) (cfg : Config) : TraceLine → List Instr
  | .reset policy fSrc => [.reset pin policy fSrc cfg]
  | .push w => [.envPush w]
  | .tick => [.acqTick]
  | .word => [.acqWord]
  | .poll _ _ => [.poll]
  | .pollA _ => [.pollA]
  | .pollB _ _ => [.pollB]
  | .read _ => [.readCode]
  | .burst ws => burstPushes ws
  | .frame bits => burstPushes (frameWords bits)

/-- What the last step of a line puts on its port. -/
def TraceLine.expects : TraceLine → Output
  | .reset _ _ => .silent
  | .push _ => .silent
  | .tick => .silent
  | .word => .silent
  | .poll newCode status => .reply newCode status
  | .pollA none => .silent
  | .pollA (some (newCode, status)) => .reply newCode status
  | .pollB newCode status => .reply newCode status
  | .read w => .code w
  | .burst _ => .silent
  | .frame _ => .silent

/-- The requests a trace places. -/
def traceRequests (pin : Nat) (cfg : Config) (lines : List TraceLine) : List Request :=
  lines.flatMap fun l => (l.instrs pin cfg).map encode

end Sys2Proof.Machine
end

