-- ==== Sys2Proof/Safety.lean ====
section
/-! DEFINITION. The terms claims use: the invariant of R35, the runs of the block, sequences of steps, and a frame as the
symbols it is made of. -/

namespace Sys2Proof.Machine

/-- R35, with the constraints of R9 and R8. The fourth line of R35's table and the phase of R37 are claimed for
`POLL_ATOMIC = true` only (conflict C8). -/
structure State.Inv (s : State) : Prop where
  cfgValid : s.cfg.valid = true
  srcqBound : s.srcq.length ≤ s.cfg.srcFifoDepth
  accBound : s.acc.length ≤ s.cfg.accDepth
  ovfFull : s.accOvf = true → s.acc.length = s.cfg.accDepth
  cmdPending : s.cmdReady = true → 2 < s.cmdBuf.length ∧ s.cmdBuf.length ≤ s.cfg.accDepth
  cmdIdle : s.cfg.pollAtomic = true → s.cmdReady = false → s.cmdBuf = []
  repPending : s.repReady = true → s.repBuf.length = 2
  repIdle : s.repReady = false → s.repBuf = []
  cmdMicros : ∀ v ∈ s.cmdBuf, v < 2 ^ 53
  repMicros : ∀ v ∈ s.repBuf, v < 2 ^ 53
  phaseAtomic : s.cfg.pollAtomic = true → s.pollPhase = .idle

/-- The states of the block's runs: construction first (R211), then steps of the four agents in any order (R5, R60). -/
inductive State.Reachable : State → Prop where
  | built (pin : Nat) (policy : Bool) (fSrc : Freq) (cfg : Config) (h : cfg.valid = true) :
      State.Reachable (State.built pin policy fSrc cfg)
  | agentStep {s t : State} (i : Instr) (hi : i.agent ≠ none) (hs : State.Reachable s) (h : exec i s = .next t) :
      State.Reachable t

/-- One instruction after the other; a fault or a refusal ends the sequence. -/
def runInstrs : List Instr → State → Result
  | [], s => .next s
  | i :: rest, s =>
    match exec i s with
    | .next t => runInstrs rest t
    | .fault r => .fault r
    | .refused r => .refused r

/-- One instruction after the other up to the first that replies as `POLL` does. -/
def runToReply : List Instr → State → Result
  | [], s => .next s
  | i :: rest, s =>
    match exec i s with
    | .next t =>
      match t.out with
      | .reply _ _ => .next t
      | _ => runToReply rest t
    | .fault r => .fault r
    | .refused r => .refused r

/-- The data pairs of a frame as symbols (R75), a value without a partner left out (R53). -/
def dataSymbols : List Nat → List Instr
  | p1 :: p2 :: rest => decodeDataPair p1 p2 :: dataSymbols rest
  | [_] => []
  | [] => []

/-- A command burst as the symbols the frame state machine meets (R130): the start, the data pairs, the completion. -/
def frameSymbols (b : List Nat) : List Instr :=
  match b with
  | v0 :: v1 :: rest => decodeStartPair v0 v1 :: dataSymbols rest ++ [.okCommand]
  | [_] => [.insufficientData]
  | [] => [.insufficientData]

/-- R133: the number of data pairs of a burst. -/
def pairCount (b : List Nat) : Nat := (b.length - 2) / 2

/-- R53: the mark of data pair `k`. -/
def pairMark (b : List Nat) (k : Nat) : Nat := b.getD (2 * k) 0

/-- R53: the space of data pair `k`. -/
def pairSpace (b : List Nat) (k : Nat) : Nat := b.getD (2 * k + 1) 0

/-- R75, R132: the windows of the start pair, of which one is enough. -/
abbrev inStartWindows (v0 v1 : Nat) : Prop := (7501 ≤ v0 ∧ v0 ≤ 11249) ∨ (3751 ≤ v1 ∧ v1 ≤ 5624)

/-- R75: the windows of a `ZERO`. -/
abbrev inZeroWindows (p1 p2 : Nat) : Prop := (467 ≤ p1 ∧ p1 ≤ 699) ∧ (467 ≤ p2 ∧ p2 ≤ 699)

/-- R75: the windows of a `ONE`. -/
abbrev inOneWindows (p1 p2 : Nat) : Prop := (467 ≤ p1 ∧ p1 ≤ 699) ∧ (1401 ≤ p2 ∧ p2 ≤ 2099)

/-- R75: the windows of a `REPEAT`. -/
abbrev inRepeatWindows (v0 v1 : Nat) : Prop := (7501 ≤ v0 ∧ v0 ≤ 11249) ∧ (1876 ≤ v1 ∧ v1 ≤ 2812)

end Sys2Proof.Machine
end

