-- ==== Sys2Proof/Certificates/Slice0/Obligations.lean ====
section
/-! DEFINITION. The statements for the provers. A next state is written as the state before with the fields that change, so
each equality is also the frame: every field it does not name keeps its value. `out` is the model's own record of what the
step puts on its port (log 3); `.silent` says that the step has no output. -/

open Sys2Proof Sys2Proof.Machine

/-! ### Encoding and step -/

/-- Every well-formed instruction is what its own request decodes to (R70, R75, R78; the channels are the model's, log 2). -/
def Obligations.DecodeInvertsEncode : Prop :=
  ∀ i : Instr, i.wellFormed = true → decode (encode i) = .ok i

/-- The decoder gives no instruction with operands its row does not have. -/
def Obligations.DecodedInstructionIsWellFormed : Prop :=
  ∀ (r : Request) (i : Instr), decode r = .ok i → i.wellFormed = true

/-- R70: the marker is one word, every other word is a tick count; also for a word given as the opcode table's bits. -/
def Obligations.SourceWordIsMarkerOrTick : Prop :=
  ∀ w : Word,
    decode ⟨.sourceWord, [w.toNat]⟩ = .ok (if w = 0xFFFFFFFF#32 then .timeout else .tick w) ∧
    decodeTableWord 32 w.toNat = some (if w = 0xFFFFFFFF#32 then .timeout else .tick w)

/-- R124: a data pair matching neither predicate is invalid, and sorting by the sum first rejects no pair that either
predicate accepts. -/
def Obligations.DataPairDecodesByWindows : Prop :=
  ∀ p1 p2 : Nat, p1 < 2 ^ 53 → p2 < 2 ^ 53 →
    decode ⟨.dataPair, [p1, p2]⟩ = .ok
      (if inZeroWindows p1 p2 then .zero p1 p2
       else if inOneWindows p1 p2 then .one p1 p2
       else if 1680 < p1 + p2 then .invalidOneBit
       else .invalidZeroBit)

/-- Words and pairs written out from the spec (R70, R75, R78) decode to their rows. -/
def Obligations.SpecWordsDecodeToTheirRows : Prop :=
  decodeTableWord 32 0xFFFFFFFF = some .timeout ∧
  decodeTableWord 32 0x00000480 = some (.tick 1152#32) ∧
  decodeTableWord 8 0b000 = some .okCommand ∧
  decodeTableWord 8 0b010 = some .noBurst ∧
  decodeTableWord 8 0b111 = some .invalidRepeatFrame ∧
  decode ⟨.startPair, [9000, 4500]⟩ = .ok (.start 9000 4500) ∧
  decode ⟨.dataPair, [562, 1679]⟩ = .ok (.one 562 1679) ∧
  decode ⟨.repeatPair, [9000, 2250]⟩ = .ok (.repeatPair 9000 2250) ∧
  decode ⟨.codeValue, [0xFFFFFFFF]⟩ = .ok .repeatSentinel

/-- A step takes the oldest request and runs the instruction it decodes to (the requests are the model's, log 1). -/
def Obligations.StepRunsDecodedRequest : Prop :=
  ∀ (s : State) (r : Request) (rest : List Request) (i : Instr),
    s.requests = r :: rest → decode r = .ok i → step s = exec i { s with requests := rest }

/-- A word of the opcode table placed for the next step is run by it, in the state it was placed in (log 11). -/
def Obligations.PlacedTableWordRunsNext : Prop :=
  ∀ (s : State) (nbits w : Nat) (i : Instr),
    decodeTableWord nbits w = some i → step (s.withFetchWord nbits w) = exec i s

/-- With nothing requested, all state keeps its value (R198). -/
def Obligations.IdleStepKeepsState : Prop :=
  ∀ s : State, s.requests = [] → step s = .next { s with out := .silent }

/-! ### Acquisition -/

/-- `ENV_PUSH` with room puts the word at the tail; under `drop_new` a full queue stays as it is (R102). -/
def Obligations.EnvPushAppendsAtTail : Prop :=
  ∀ (w : Word) (s : State),
    (s.srcq.length < s.cfg.srcFifoDepth →
      exec (.envPush w) s = .next { s with srcq := s.srcq ++ [w], out := .silent }) ∧
    (s.srcq.length = s.cfg.srcFifoDepth → s.cfg.srcOverflow = .dropNew →
      exec (.envPush w) s = .next { s with out := .silent })

/-- `ACQ_WORD` removes the head and does with it what `FINALIZE` or `APPEND` does (R103), and it ends. -/
def Obligations.AcqWordActsOnHead : Prop :=
  ∀ (s : State) (w : Word) (rest : List Word), s.srcq = w :: rest →
    exec .acqWord s =
      exec (if w = 0xFFFFFFFF#32 then .finalize else .append w) { s with srcq := rest } ∧
    ∃ t, exec .acqWord s = .next t ∧ t.srcq = rest

/-- R104, for `APPEND` and for the word class `TICK`. -/
def Obligations.TickIsStoredOrOverflows : Prop :=
  ∀ (w : Word) (s : State), ∀ i ∈ [Instr.append w, Instr.tick w],
    (s.acc.length < s.cfg.accDepth → exec i s = .next { s with acc := s.acc ++ [w], out := .silent }) ∧
    (s.cfg.accDepth ≤ s.acc.length → exec i s = .next { s with accOvf := true, out := .silent })

/-- R105 to R108 and R112, for `FINALIZE` and for the word class `TIMEOUT`: `us` is any list that holds, value by value, the
floor of the exact quotient of the accumulated counts. -/
def Obligations.FinalizeStoresByLength : Prop :=
  ∀ (s : State) (us : List Nat),
    List.Forall₂ (fun (t : Word) u =>
      u * s.fSrc.val ≤ t.toNat * 2000000 ∧ t.toNat * 2000000 < (u + 1) * s.fSrc.val) s.acc us →
    ∀ i ∈ [Instr.finalize, Instr.timeout],
      (s.accOvf = false → us.length = 2 →
        exec i s = .next { s with repBuf := us, repReady := true, acc := [], accOvf := false, out := .silent }) ∧
      (s.accOvf = false → 2 < us.length →
        exec i s = .next { s with cmdBuf := us, cmdReady := true, acc := [], accOvf := false, out := .silent }) ∧
      (s.accOvf = true ∨ us.length < 2 →
        exec i s = .next { s with acc := [], accOvf := false, out := .silent })

/-- `ACQ_TICK` is `ACQ_WORD` once per word of the queue (R110), and it leaves the queue empty. -/
def Obligations.AcqTickIsRepeatedAcqWord : Prop :=
  ∀ s : State,
    exec .acqTick s = runInstrs (List.replicate s.srcq.length .acqWord) { s with out := .silent } ∧
    ∃ t, exec .acqTick s = .next t ∧ t.srcq = []

/-- "There is no other way to empty the accumulator except RESET" (R108). -/
def Obligations.AccumulatorEmptiedOnlyByFinalizeOrReset : Prop :=
  ∀ (i : Instr) (s t : State), exec i s = .next t → s.acc ≠ [] → t.acc = [] →
    i = .finalize ∨ i = .timeout ∨ i = .acqWord ∨ i = .acqTick ∨ ∃ pin policy fSrc cfg, i = .reset pin policy fSrc cfg

/-- Acquisition reads nothing the polling context writes (R63, R109): whatever is pending, a burst it stores is the same and
one it does not store leaves what was pending. -/
def Obligations.AcquisitionNeverReadsPendingBursts : Prop :=
  ∀ (s t : State) (cb rb : List Nat) (cr rr : Bool) (code : Word) (ph : PollPhase),
    ∀ i ∈ [Instr.acqWord, Instr.acqTick, Instr.finalize], exec i s = .next t →
      ∃ t', exec i { s with cmdBuf := cb, cmdReady := cr, repBuf := rb, repReady := rr,
                            commandCode := code, pollPhase := ph } = .next t' ∧
        t'.srcq = t.srcq ∧ t'.acc = t.acc ∧ t'.accOvf = t.accOvf ∧
        ((t'.cmdBuf = t.cmdBuf ∧ t'.cmdReady = true ∧ t.cmdReady = true) ∨
          (t'.cmdBuf = cb ∧ t'.cmdReady = cr ∧ t.cmdBuf = s.cmdBuf ∧ t.cmdReady = s.cmdReady)) ∧
        ((t'.repBuf = t.repBuf ∧ t'.repReady = true ∧ t.repReady = true) ∨
          (t'.repBuf = rb ∧ t'.repReady = rr ∧ t.repBuf = s.repBuf ∧ t.repReady = s.repReady))

/-! ### Conversion and classifier -/

/-- R71: `to_us` is the floor of the exact quotient, fits in 53 bits, is monotone, and gives the document's two examples. -/
def Obligations.ToUsIsFloorOfQuotient : Prop :=
  (∀ (t : Word) (s : State), ∃ u,
    exec (.toUs t) s = .next { s with out := .micros u } ∧
    u * s.fSrc.val ≤ t.toNat * 2000000 ∧ t.toNat * 2000000 < (u + 1) * s.fSrc.val ∧ u < 2 ^ 53) ∧
  (∀ (t₁ t₂ : Word) (s : State) (u₁ u₂ : Nat), t₁.toNat ≤ t₂.toNat →
    exec (.toUs t₁) s = .next { s with out := .micros u₁ } →
    exec (.toUs t₂) s = .next { s with out := .micros u₂ } → u₁ ≤ u₂) ∧
  (∀ s : State, exec (.toUs 0#32) s = .next { s with out := .micros 0 }) ∧
  (∀ s : State, s.fSrc.val = 256000 →
    exec (.toUs 1152#32) s = .next { s with out := .micros 9000 } ∧
    exec (.toUs 576#32) s = .next { s with out := .micros 4500 })

/-- R120: the tolerance is a fifth of the observed value, and the comparison is strict. -/
def Obligations.MatchToleranceScalesWithObserved : Prop :=
  ∀ (v e : Nat) (s : State),
    exec (.matchTest v e) s = .next { s with out := .truth (decide (5 * |(v : Int) - (e : Int)| < (v : Int))) }

/-- R123: the closed interval of each expected duration. -/
def Obligations.MatchAcceptsClosedIntervals : Prop :=
  ∀ (v : Nat) (s : State),
    ∀ w ∈ [(560, 467, 699), (1680, 1401, 2099), (2250, 1876, 2812), (4500, 3751, 5624), (9000, 7501, 11249)],
      exec (.matchTest v w.1) s = .next { s with out := .truth (decide (w.2.1 ≤ v ∧ v ≤ w.2.2)) }

/-- R121: the windows of a `0`, and the bounds of its sum. -/
def Obligations.IsZeroAcceptsItsWindows : Prop :=
  ∀ (p1 p2 : Nat) (s : State),
    exec (.isZero p1 p2) s = .next { s with out := .truth (decide (inZeroWindows p1 p2)) } ∧
    (exec (.isZero p1 p2) s = .next { s with out := .truth true } → 934 ≤ p1 + p2 ∧ p1 + p2 ≤ 1398)

/-- R122: the windows of a `1`, the bounds of its sum, and no pair is both a `0` and a `1`. -/
def Obligations.IsOneAcceptsItsWindows : Prop :=
  ∀ (p1 p2 : Nat) (s : State),
    exec (.isOne p1 p2) s = .next { s with out := .truth (decide (inOneWindows p1 p2)) } ∧
    (exec (.isOne p1 p2) s = .next { s with out := .truth true } →
      1868 ≤ p1 + p2 ∧ p1 + p2 ≤ 2798 ∧ exec (.isZero p1 p2) s = .next { s with out := .truth false })

/-! ### Frame Decoder -/

/-- R181: a burst of fewer than two values is the one cause of `InsufficientData`, and no run of the block replies it. -/
def Obligations.InsufficientDataOnlyForShortBursts : Prop :=
  (∀ (b : List Nat) (s : State), b.length ≤ 1 →
    exec (.frameDecode b) s = .next { s with out := .raised .insufficientData } ∧
    exec (.repeatHandle b) s = .next { s with out := .raised .insufficientData }) ∧
  (∀ (b : List Nat) (s : State), 2 ≤ b.length →
    exec (.frameDecode b) s ≠ .next { s with out := .raised .insufficientData } ∧
    exec (.repeatHandle b) s ≠ .next { s with out := .raised .insufficientData }) ∧
  (∀ (i : Instr) (s t : State), s.Reachable → i.agent ≠ none → exec i s = .next t →
    t.out ≠ .reply false (.failed .insufficientData))

/-- R132, R182: the start is rejected exactly when both values are out of their windows. -/
def Obligations.StartRejectedOnlyWhenBothFail : Prop :=
  ∀ (v0 v1 : Nat) (rest : List Nat) (s : State),
    exec (.frameDecode (v0 :: v1 :: rest)) s = .next { s with out := .raised .invalidStartSequence } ↔
      ¬ (7501 ≤ v0 ∧ v0 ≤ 11249) ∧ ¬ (3751 ≤ v1 ∧ v1 ≤ 5624)

/-- R76, R136: with an accepted start and nothing but valid pairs, pair `k` decides bit `32 - k` and every bit with no data
pair is 0; the number of pairs is not checked. -/
def Obligations.FrameCodeHasOneBitPerPair : Prop :=
  ∀ (b : List Nat) (s : State), 2 ≤ b.length → inStartWindows (b.getD 0 0) (b.getD 1 0) → pairCount b ≤ 32 →
    (∀ k, 1 ≤ k → k ≤ pairCount b →
      inZeroWindows (pairMark b k) (pairSpace b k) ∨ inOneWindows (pairMark b k) (pairSpace b k)) →
    ∃ code, exec (.frameDecode b) s = .next { s with out := .frameOk code } ∧
      (∀ k, 1 ≤ k → k ≤ pairCount b → code.getLsbD (32 - k) = decide (inOneWindows (pairMark b k) (pairSpace b k))) ∧
      (∀ j, j < 32 - pairCount b → code.getLsbD j = false)

/-- R183, R184: the first data pair, in walk order, that is neither a `0` nor a `1` decides the failure, by its sum. -/
def Obligations.FirstBadPairDecidesFailure : Prop :=
  ∀ (b : List Nat) (s : State) (k : Nat), inStartWindows (b.getD 0 0) (b.getD 1 0) → 1 ≤ k → k ≤ pairCount b → k ≤ 32 →
    (∀ m, 1 ≤ m → m < k →
      inZeroWindows (pairMark b m) (pairSpace b m) ∨ inOneWindows (pairMark b m) (pairSpace b m)) →
    ¬ inZeroWindows (pairMark b k) (pairSpace b k) → ¬ inOneWindows (pairMark b k) (pairSpace b k) →
    exec (.frameDecode b) s =
      .next { s with out := .raised (if 1680 < pairMark b k + pairSpace b k then .invalidOneBit else .invalidZeroBit) }

/-- R137: a 33rd data pair is a fault, and a burst of at most 67 values never has one. -/
def Obligations.ThirtyThirdPairFaults : Prop :=
  (∀ (b : List Nat) (s : State), inStartWindows (b.getD 0 0) (b.getD 1 0) → 33 ≤ pairCount b →
    (∀ k, 1 ≤ k → k ≤ 32 →
      inZeroWindows (pairMark b k) (pairSpace b k) ∨ inOneWindows (pairMark b k) (pairSpace b k)) →
    exec (.frameDecode b) s = .fault .bitIndexOutsideCode) ∧
  (∀ (b : List Nat) (s : State), b.length ≤ 67 → ∃ o, exec (.frameDecode b) s = .next { s with out := o })

/-- A last value without a partner is read by nothing (R53, R133). -/
def Obligations.UnpairedLastValueIsUnread : Prop :=
  ∀ (b : List Nat) (x : Nat) (s : State), 2 ≤ b.length → b.length % 2 = 0 →
    exec (.frameDecode (b ++ [x])) s = exec (.frameDecode b) s

/-- One symbol at a time (R132 to R135). The working values `frame` are the model's own field (log 6), and that these rows fault
outside the pair indexes 1 to 32, index 0 included, is the model's choice (log 21): R137 orders the fault for a pair index
above 32 in `FRAME_DECODE`. -/
def Obligations.SymbolsStepTheWalk : Prop :=
  ∀ (p1 p2 : Nat) (s : State),
    (inStartWindows p1 p2 → exec (.start p1 p2) s = .next { s with frame := ⟨2, 0#32⟩, out := .silent }) ∧
    (¬ inStartWindows p1 p2 → exec (.start p1 p2) s = .next { s with out := .raised .invalidStartSequence }) ∧
    (2 ≤ s.frame.i → s.frame.i ≤ 65 →
      (inZeroWindows p1 p2 →
        exec (.zero p1 p2) s = .next { s with frame := ⟨s.frame.i + 2, s.frame.codeAcc⟩, out := .silent }) ∧
      (¬ inZeroWindows p1 p2 → exec (.zero p1 p2) s = .next { s with out := .raised .invalidZeroBit }) ∧
      (inOneWindows p1 p2 →
        exec (.one p1 p2) s = .next { s with
          frame := ⟨s.frame.i + 2, s.frame.codeAcc ||| (1#32 <<< (32 - s.frame.i / 2))⟩, out := .silent }) ∧
      (¬ inOneWindows p1 p2 → exec (.one p1 p2) s = .next { s with out := .raised .invalidOneBit })) ∧
    (s.frame.i < 2 ∨ 65 < s.frame.i →
      exec (.zero p1 p2) s = .fault .bitIndexOutsideCode ∧ exec (.one p1 p2) s = .fault .bitIndexOutsideCode)

/-- A poll of a command burst is the take, then the burst's symbols one after the other up to the reply (R130, R161): the same
state but for the working values of the symbols (the model's own field, log 6). That the status rows end the poll and that
`OK_COMMAND` writes the assembled code is the model's reading of those rows (log 7). -/
def Obligations.PollOfCommandIsItsSymbolRun : Prop :=
  ∀ s : State, s.Inv → s.cmdReady = true → s.cfg.pollAtomic = true ∨ s.pollPhase = .idle →
    ∃ t f, exec .poll s = .next t ∧
      runToReply (.take .command :: frameSymbols s.cmdBuf) s = .next { t with frame := f }

/-! ### Repeat Handler -/

/-- R152 to R154, R162 and R185: a repeat burst under both policies, for the pair, for the sub-operation and for the poll. -/
def Obligations.RepeatBurstFollowsPolicy : Prop :=
  ∀ (v0 v1 : Nat) (rest : List Nat) (s : State),
    (∀ i ∈ [Instr.repeatPair v0 v1, Instr.repeatHandle (v0 :: v1 :: rest)],
      (inRepeatWindows v0 v1 → exec i s = .next { s with
        commandCode := if s.repeatPolicy then s.commandCode else 0xFFFFFFFF#32, out := .repeatOk }) ∧
      (¬ inRepeatWindows v0 v1 → exec i s = .next { s with out := .raised .invalidRepeatFrame })) ∧
    (s.cfg.pollAtomic = true ∨ s.pollPhase = .idle → s.cmdReady = false → s.repReady = true →
      s.repBuf = v0 :: v1 :: rest →
      (inRepeatWindows v0 v1 → exec .poll s = .next { s with
        repBuf := [], repReady := false, cmdReady := false,
        commandCode := if s.repeatPolicy then s.commandCode else 0xFFFFFFFF#32,
        out := .reply true .okRepeat }) ∧
      (¬ inRepeatWindows v0 v1 → exec .poll s = .next { s with
        repBuf := [], repReady := false, cmdReady := false,
        out := .reply false (.failed .invalidRepeatFrame) }))

/-- `REPEAT_SENTINEL` writes the sentinel under the policy that writes it, and nothing under the other (R77, R153; the row as
a step is the model's reading, log 8). -/
def Obligations.SentinelWrittenOnlyUnderItsPolicy : Prop :=
  ∀ s : State,
    (s.repeatPolicy = false → exec .repeatSentinel s = .next { s with commandCode := 0xFFFFFFFF#32, out := .silent }) ∧
    (s.repeatPolicy = true → exec .repeatSentinel s = .next { s with out := .silent })

/-! ### Facade -/

/-- R161: the burst is consumed whether it decodes or not; the code is written only on success; the repeat burst stays. -/
def Obligations.PollConsumesCommandBurst : Prop :=
  ∀ s : State, s.cfg.pollAtomic = true ∨ s.pollPhase = .idle → s.cmdReady = true →
    (∀ code, exec (.frameDecode s.cmdBuf) s = .next { s with out := .frameOk code } →
      exec .poll s = .next { s with
        cmdBuf := [], cmdReady := false, commandCode := code, out := .reply true .okCommand }) ∧
    (∀ f, exec (.frameDecode s.cmdBuf) s = .next { s with out := .raised f } →
      exec .poll s = .next { s with cmdBuf := [], cmdReady := false, out := .reply false (.failed f) })

/-- Every poll replies (R160), given a pending command burst within the bound of R9. -/
def Obligations.PollAlwaysReplies : Prop :=
  ∀ s : State, s.cfg.pollAtomic = true ∨ s.pollPhase = .idle → s.cmdBuf.length ≤ 67 →
    ∃ t newCode status, exec .poll s = .next t ∧ t.out = .reply newCode status

/-- R163: with neither flag raised a poll replies `(false, NO_BURST)` and writes nothing. -/
def Obligations.PollWithoutBurstWritesNothing : Prop :=
  ∀ s : State, s.cfg.pollAtomic = true ∨ s.pollPhase = .idle → s.cmdReady = false → s.repReady = false →
    exec .poll s = .next { s with out := .reply false .noBurst }

/-- The two halves of the split poll (R165): `POLL_A` takes the command path of R161 or waits; `POLL_B` takes the repeat path of
R162 or replies `NO_BURST`, and never looks at `cmd_ready`. -/
def Obligations.SplitPollHalves : Prop :=
  ∀ s : State, s.cfg.pollAtomic = false →
    (s.pollPhase = .idle → s.cmdReady = false →
      exec .pollA s = .next { s with pollPhase := .repeatCheck, out := .silent }) ∧
    (s.pollPhase = .idle → s.cmdReady = true → s.cmdBuf.length ≤ 67 →
      ∃ newCode status code, exec .pollA s = .next { s with
        cmdBuf := [], cmdReady := false, commandCode := code, out := .reply newCode status }) ∧
    (s.pollPhase = .idle → s.cmdReady = true →
      (∀ code, exec (.frameDecode s.cmdBuf) s = .next { s with out := .frameOk code } →
        exec .pollA s = .next { s with
          cmdBuf := [], cmdReady := false, commandCode := code, out := .reply true .okCommand }) ∧
      (∀ f, exec (.frameDecode s.cmdBuf) s = .next { s with out := .raised f } →
        exec .pollA s = .next { s with cmdBuf := [], cmdReady := false, out := .reply false (.failed f) })) ∧
    (s.pollPhase = .repeatCheck → s.repReady = false →
      exec .pollB s = .next { s with pollPhase := .idle, out := .reply false .noBurst }) ∧
    (s.pollPhase = .repeatCheck → s.repReady = true →
      ∃ newCode status code, exec .pollB s = .next { s with
        pollPhase := .idle, repBuf := [], repReady := false, cmdReady := false, commandCode := code,
        out := .reply newCode status }) ∧
    (∀ (v0 v1 : Nat) (rest : List Nat), s.pollPhase = .repeatCheck → s.repReady = true → s.repBuf = v0 :: v1 :: rest →
      (inRepeatWindows v0 v1 → exec .pollB s = .next { s with
        pollPhase := .idle, repBuf := [], repReady := false, cmdReady := false,
        commandCode := if s.repeatPolicy then s.commandCode else 0xFFFFFFFF#32,
        out := .reply true .okRepeat }) ∧
      (¬ inRepeatWindows v0 v1 → exec .pollB s = .next { s with
        pollPhase := .idle, repBuf := [], repReady := false, cmdReady := false,
        out := .reply false (.failed .invalidRepeatFrame) }))

/-- With no step between them the two halves behave like the whole poll (R165). -/
def Obligations.SplitPollEqualsWholePoll : Prop :=
  ∀ s : State, s.cfg.pollAtomic = false → s.pollPhase = .idle →
    (s.cmdReady = true → exec .pollA s = exec .poll s) ∧
    (s.cmdReady = false → runInstrs [.pollA, .pollB] s = exec .poll s)

/-- R215: between the halves the cross-kind clear loses a command burst: its flag falls, the code is only what the repeat makes
it, and no step of an agent reads a command buffer without its flag ("the stale content is never read", R35), so the burst is
never decoded. With an atomic poll a raised flag falls, in a step of the polling context, only with the burst decoded. -/
def Obligations.CrossKindClearLosesOnlyInSplitPoll : Prop :=
  (∀ (s t : State), s.cfg.pollAtomic = false → s.pollPhase = .repeatCheck → s.cmdReady = true → s.repReady = true →
    exec .pollB s = .next t → t.cmdReady = false ∧ t.cmdBuf = s.cmdBuf ∧ t.out ≠ .reply true .okCommand ∧
      t.commandCode =
        if inRepeatWindows (s.repBuf.getD 0 0) (s.repBuf.getD 1 0) ∧ s.repeatPolicy = false then 0xFFFFFFFF#32
        else s.commandCode) ∧
  (∀ (i : Instr) (s t : State) (stale : List Nat), i.agent ≠ none → s.cmdReady = false → exec i s = .next t →
    (exec i { s with cmdBuf := stale } = .next { t with cmdBuf := stale } ∧ t.cmdBuf = s.cmdBuf ∧ t.cmdReady = false) ∨
      exec i { s with cmdBuf := stale } = .next t) ∧
  (∀ (i : Instr) (s t : State), s.cfg.pollAtomic = true → i.agent = some .app → exec i s = .next t →
    s.cmdReady = true → t.cmdReady = false →
    i = .poll ∧
      ((∃ code, exec (.frameDecode s.cmdBuf) s = .next { s with out := .frameOk code } ∧
          t.commandCode = code ∧ t.out = .reply true .okCommand) ∨
        (∃ f, exec (.frameDecode s.cmdBuf) s = .next { s with out := .raised f } ∧
          t.out = .reply false (.failed f))))

/-- R166: reading the code changes nothing, at any time. -/
def Obligations.ReadCodeReturnsCode : Prop :=
  ∀ s : State, exec .readCode s = .next { s with out := .code s.commandCode }

/-- R59: the take copies the buffer, empties it and clears its flag, whatever the flag was, and touches nothing else. -/
def Obligations.TakeCopiesAndClears : Prop :=
  ∀ s : State,
    exec (.take .command) s = .next { s with cmdBuf := [], cmdReady := false, out := .burst s.cmdBuf } ∧
    exec (.take .repeated) s = .next { s with repBuf := [], repReady := false, out := .burst s.repBuf }

/-- The replies of `POLL` as rows of their own (R78, R15); `OK_COMMAND` also writes the code its symbols assembled (log 7). -/
def Obligations.ReplyRowsEndThePoll : Prop :=
  ∀ s : State,
    exec .okCommand s = .next { s with commandCode := s.frame.codeAcc, out := .reply true .okCommand } ∧
    exec .okRepeat s = .next { s with out := .reply true .okRepeat } ∧
    exec .noBurst s = .next { s with out := .reply false .noBurst } ∧
    exec .insufficientData s = .next { s with out := .reply false (.failed .insufficientData) } ∧
    exec .invalidStartSequence s = .next { s with out := .reply false (.failed .invalidStartSequence) } ∧
    exec .invalidZeroBit s = .next { s with out := .reply false (.failed .invalidZeroBit) } ∧
    exec .invalidOneBit s = .next { s with out := .reply false (.failed .invalidOneBit) } ∧
    exec .invalidRepeatFrame s = .next { s with out := .reply false (.failed .invalidRepeatFrame) }

/-- "`new_code = true` exactly when `status` is 0 or 1" (R78), for whatever instruction replies. -/
def Obligations.NewCodeExactlyForStatusZeroOrOne : Prop :=
  ∀ (i : Instr) (s t : State) (newCode : Bool) (status : Status),
    exec i s = .next t → t.out = .reply newCode status → (newCode = true ↔ statusCode status ≤ 1)

/-! ### Reset -/

/-- R210 and R9: every element of the state of R20 and R32 at its reset value; parameters that R9 forbids are refused. -/
def Obligations.ResetInstallsEveryElement : Prop :=
  ∀ (pin : Nat) (policy : Bool) (fSrc : Nat) (cfg : Config) (s : State),
    (1 ≤ fSrc → 34 ≤ cfg.accDepth → cfg.accDepth ≤ 67 → 1 ≤ cfg.srcFifoDepth →
      ∃ t, exec (.reset pin policy fSrc cfg) s = .next t ∧
        t.srcq = [] ∧ t.acc = [] ∧ t.accOvf = false ∧ t.cmdBuf = [] ∧ t.cmdReady = false ∧
        t.repBuf = [] ∧ t.repReady = false ∧ t.commandCode = cfg.cmdReset ∧ t.pollPhase = .idle ∧
        t.repeatPolicy = policy ∧ t.fSrc.val = fSrc ∧ t.pin = pin ∧ t.cfg = cfg) ∧
    (fSrc = 0 ∨ cfg.accDepth < 34 ∨ 67 < cfg.accDepth →
      exec (.reset pin policy fSrc cfg) s = .refused .invalidInstance)

/-- The state after construction meets the invariant, whatever the parameters, and so does `State.reset` (whose parameters are
the model's choice, log 9 and log 10). -/
def Obligations.ResetStateMeetsInvariant : Prop :=
  (∀ (pin : Nat) (policy : Bool) (fSrc : Freq) (cfg : Config), cfg.valid = true →
    (State.built pin policy fSrc cfg).Inv) ∧ State.reset.Inv

/-! ### The whole machine -/

/-- The invariant of R35 is kept by every step, from every state that meets it, whatever is requested. -/
def Obligations.StepKeepsInvariant : Prop :=
  ∀ s t : State, s.Inv → step s = .next t → t.Inv

/-- R35: the invariant holds in every state the block's agents reach from construction. -/
def Obligations.ReachableStatesMeetInvariant : Prop :=
  ∀ s : State, s.Reachable → s.Inv

/-- No step of an agent stops the block (R186): from a state that meets the invariant every one ends in a next state, but a
construction with forbidden parameters. -/
def Obligations.AgentStepsNeverStop : Prop :=
  ∀ (i : Instr) (s : State), s.Inv → i.agent ≠ none →
    (∀ pin policy fSrc cfg, i = .reset pin policy fSrc cfg → 1 ≤ fSrc ∧ cfg.valid = true) →
    ∃ t, exec i s = .next t

/-- The command code is written only by a poll, by the repeat handler and by construction (R28; the rows that stand for a part
of those are the last three). -/
def Obligations.CommandCodeHasFewWriters : Prop :=
  ∀ (i : Instr) (s t : State), exec i s = .next t → t.commandCode ≠ s.commandCode →
    i = .poll ∨ i = .pollA ∨ i = .pollB ∨ (∃ b, i = .repeatHandle b) ∨
      (∃ pin policy fSrc cfg, i = .reset pin policy fSrc cfg) ∨
      (∃ p1 p2, i = .repeatPair p1 p2) ∨ i = .okCommand ∨ i = .repeatSentinel

/-- What raises and what clears each flag, among the steps of the agents (R31). -/
def Obligations.FlagsChangeOnlyAsTabled : Prop :=
  ∀ (i : Instr) (s t : State), i.agent ≠ none → exec i s = .next t →
    (s.cmdReady = false → t.cmdReady = true → i = .acqWord ∨ i = .acqTick) ∧
    (s.repReady = false → t.repReady = true → i = .acqWord ∨ i = .acqTick) ∧
    (s.accOvf = false → t.accOvf = true → i = .acqWord ∨ i = .acqTick) ∧
    (s.cmdReady = true → t.cmdReady = false → i.agent = some .app ∨ i.agent = some .rst) ∧
    (s.repReady = true → t.repReady = false → i.agent = some .app ∨ i.agent = some .rst) ∧
    (s.accOvf = true → t.accOvf = false → i.agent = some .acq ∨ i.agent = some .rst)

/-- A step of one context never writes state that R192 gives to another alone. -/
def Obligations.ContextsKeepToTheirState : Prop :=
  ∀ (i : Instr) (s t : State), exec i s = .next t →
    (i.agent = some .env →
      t = { s with srcq := t.srcq, out := t.out } ∧ ∃ added, t.srcq = s.srcq ++ added) ∧
    (i.agent = some .acq →
      t.commandCode = s.commandCode ∧ t.pollPhase = s.pollPhase ∧ ∃ removed, s.srcq = removed ++ t.srcq) ∧
    (i.agent = some .app → t.srcq = s.srcq ∧ t.acc = s.acc ∧ t.accOvf = s.accOvf)

/-- A poll never reads the queue or the burst being received (R167, R225): with other ones it does the same. -/
def Obligations.PollIgnoresReception : Prop :=
  ∀ (i : Instr) (s t : State) (q a : List Word) (o : Bool), i.agent = some .app → exec i s = .next t →
    exec i { s with srcq := q, acc := a, accOvf := o } = .next { t with srcq := q, acc := a, accOvf := o }

/-- The parameters are fixed between two constructions (R61, decision D13). -/
def Obligations.ParametersChangeOnlyByReset : Prop :=
  ∀ (i : Instr) (s t : State), exec i s = .next t →
    (t.repeatPolicy = s.repeatPolicy ∧ t.fSrc = s.fSrc ∧ t.pin = s.pin ∧ t.cfg = s.cfg) ∨
      ∃ pin policy fSrc cfg, i = .reset pin policy fSrc cfg

/-- A step that is not enabled does nothing (R16, R102, R103, R165); that it uses up its request is the model's choice (log 4). -/
def Obligations.DisabledStepChangesNothing : Prop :=
  ∀ s : State,
    (∀ w, s.srcq.length = s.cfg.srcFifoDepth → s.cfg.srcOverflow = .stall →
      exec (.envPush w) s = .next { s with out := .notEnabled }) ∧
    (s.srcq = [] → exec .acqWord s = .next { s with out := .notEnabled }) ∧
    (s.cfg.pollAtomic = false → s.pollPhase = .repeatCheck →
      exec .poll s = .next { s with out := .notEnabled } ∧ exec .pollA s = .next { s with out := .notEnabled }) ∧
    (s.cfg.pollAtomic = true →
      exec .pollA s = .next { s with out := .notEnabled } ∧ exec .pollB s = .next { s with out := .notEnabled }) ∧
    (s.pollPhase = .idle → exec .pollB s = .next { s with out := .notEnabled })

/-- A frame of `n` bits, `1 ≤ n`, waiting in the source queue at 256000 Hz (the words of R81's `FRAME`): a tick and a poll
reply for a command, and the code holds the bits, the first at bit 31, with every other bit 0 (R76, R136; vector S1). -/
def Obligations.WaitingFrameIsDecoded : Prop :=
  ∀ (bits : List Bool) (s : State), s.Inv → 1 ≤ bits.length → 2 * bits.length + 2 ≤ s.cfg.accDepth →
    s.fSrc.val = 256000 → s.acc = [] → s.accOvf = false → s.pollPhase = .idle →
    s.srcq = frameWords bits ++ [0xFFFFFFFF#32] →
    ∃ t, runInstrs [.acqTick, .poll] s = .next t ∧ t.out = .reply true .okCommand ∧
      t.srcq = [] ∧ t.acc = [] ∧ t.cmdReady = false ∧ t.repBuf = s.repBuf ∧ t.repReady = s.repReady ∧
      (∀ j, j < bits.length → t.commandCode.getLsbD (31 - j) = bits.getD j false) ∧
      (∀ j, j < 32 - bits.length → t.commandCode.getLsbD j = false)

/-- R218: a repeat frame delivered as three values is a command burst and becomes the command code 0. -/
def Obligations.ThreeValueRepeatBecomesCodeZero : Prop :=
  ∀ (s : State) (a b c : Word) (u : Nat), s.acc = [a, b, c] → s.accOvf = false →
    (s.cfg.pollAtomic = true ∨ s.pollPhase = .idle) →
    exec (.toUs a) s = .next { s with out := .micros u } → 7501 ≤ u → u ≤ 11249 →
    ∃ t, exec .finalize s = .next t ∧ t.cmdReady = true ∧ t.repReady = s.repReady ∧
      ∃ t', exec .poll t = .next t' ∧ t'.out = .reply true .okCommand ∧ t'.commandCode = 0#32
end

