-- ==== Sys2Proof/Laws/Operands.lean ====
section
/-! SUPPORT. What the pure functions answer, in terms of windows and inequalities. -/

namespace Sys2Proof.Machine

theorem matchesExpected_iff (v e : Nat) : matchesExpected v e = true ↔ 5 * absDiff v e < v := by
  simp [matchesExpected]

/-- R123: the closed interval a match accepts, for an expected duration `e`. -/
theorem matchesExpected_interval (v e : Nat) : matchesExpected v e = true ↔ 5 * e < 6 * v ∧ 4 * v < 5 * e := by
  rw [matchesExpected_iff]
  unfold absDiff
  by_cases h : e ≤ v
  · rw [if_pos h]; omega
  · rw [if_neg h]; omega

theorem isZeroPair_iff (p1 p2 : Nat) :
    isZeroPair p1 p2 = true ↔ (467 ≤ p1 ∧ p1 ≤ 699) ∧ (467 ≤ p2 ∧ p2 ≤ 699) := by
  simp only [isZeroPair, Bool.and_eq_true, matchesExpected_interval, Config.tBit]
  omega

theorem isOnePair_iff (p1 p2 : Nat) :
    isOnePair p1 p2 = true ↔ (467 ≤ p1 ∧ p1 ≤ 699) ∧ (1401 ≤ p2 ∧ p2 ≤ 2099) := by
  simp only [isOnePair, Bool.and_eq_true, matchesExpected_interval, Config.tBit, Config.tOneSpace]
  omega

theorem startAccepted_iff (v0 v1 : Nat) :
    startAccepted v0 v1 = true ↔ (7501 ≤ v0 ∧ v0 ≤ 11249) ∨ (3751 ≤ v1 ∧ v1 ≤ 5624) := by
  simp only [startAccepted, Bool.or_eq_true, matchesExpected_interval, Config.tStartMark, Config.tStartSpace]
  omega

theorem repeatValid_iff (v0 v1 : Nat) :
    repeatValid v0 v1 = true ↔ (7501 ≤ v0 ∧ v0 ≤ 11249) ∧ (1876 ≤ v1 ∧ v1 ≤ 2812) := by
  simp only [repeatValid, Bool.and_eq_true, matchesExpected_interval, Config.tStartMark, Config.tRepeatSpace]
  omega

theorem heldToBeOne_iff (p1 p2 : Nat) : heldToBeOne p1 p2 = true ↔ 1680 < p1 + p2 :=
  decide_eq_true_iff

/-- R70: the one word that ends a burst. -/
theorem isMarker_iff (w : Word) : isMarker w = true ↔ w = 0xFFFFFFFF#32 :=
  decide_eq_true_iff

theorem fitsMicros_iff (v : Nat) : fitsMicros v = true ↔ v < 2 ^ 53 :=
  decide_eq_true_iff

theorem pairInCode_iff (k : Nat) : pairInCode k = true ↔ 1 ≤ k ∧ k ≤ 32 := by
  simp [pairInCode]

/-- R71: the conversion is the floor of the exact quotient. -/
theorem toMicros_floor (f : Freq) (t : Word) :
    toMicros f t * f.val ≤ t.toNat * 2000000 ∧ t.toNat * 2000000 < (toMicros f t + 1) * f.val := by
  refine ⟨Nat.div_mul_le_self _ _, ?_⟩
  have hf : 0 < f.val := f.property
  rw [Nat.mul_comm (toMicros f t + 1)]
  exact Nat.lt_mul_div_succ (t.toNat * 2000000) hf

/-- R71: a converted value fits in `US_W` bits. -/
theorem toMicros_lt (f : Freq) (t : Word) : toMicros f t < 2 ^ 53 := by
  have h := (toMicros_floor f t).1
  have hf : 1 ≤ f.val := f.property
  have ht := t.isLt
  have : toMicros f t * 1 ≤ toMicros f t * f.val := Nat.mul_le_mul_left _ hf
  omega

/-- R76: which bit the pair index selects. -/
theorem codeBit_getLsbD (k j : Nat) (hk : 1 ≤ k) (hk' : k ≤ 32) : (codeBit k).getLsbD j = decide (j = 32 - k) := by
  simp only [codeBit, BitVec.getLsbD_shiftLeft, BitVec.getLsbD_one]
  by_cases h : j = 32 - k
  · subst h
    simp
    omega
  · simp [h]
    omega

end Sys2Proof.Machine
end

