-- ==== Sys2Proof/Laws/State.lean ====
section
/-! SUPPORT. One lemma per field of State per named update, each true by rfl. -/

namespace Sys2Proof.Machine

variable (s : State)

/-! ### `s.emit o` -/

@[simp] theorem emit_srcq (o : Output) : (s.emit o).srcq = s.srcq := rfl
@[simp] theorem emit_acc (o : Output) : (s.emit o).acc = s.acc := rfl
@[simp] theorem emit_accOvf (o : Output) : (s.emit o).accOvf = s.accOvf := rfl
@[simp] theorem emit_cmdBuf (o : Output) : (s.emit o).cmdBuf = s.cmdBuf := rfl
@[simp] theorem emit_cmdReady (o : Output) : (s.emit o).cmdReady = s.cmdReady := rfl
@[simp] theorem emit_repBuf (o : Output) : (s.emit o).repBuf = s.repBuf := rfl
@[simp] theorem emit_repReady (o : Output) : (s.emit o).repReady = s.repReady := rfl
@[simp] theorem emit_commandCode (o : Output) : (s.emit o).commandCode = s.commandCode := rfl
@[simp] theorem emit_pollPhase (o : Output) : (s.emit o).pollPhase = s.pollPhase := rfl
@[simp] theorem emit_repeatPolicy (o : Output) : (s.emit o).repeatPolicy = s.repeatPolicy := rfl
@[simp] theorem emit_fSrc (o : Output) : (s.emit o).fSrc = s.fSrc := rfl
@[simp] theorem emit_pin (o : Output) : (s.emit o).pin = s.pin := rfl
@[simp] theorem emit_cfg (o : Output) : (s.emit o).cfg = s.cfg := rfl
@[simp] theorem emit_frame (o : Output) : (s.emit o).frame = s.frame := rfl
@[simp] theorem emit_requests (o : Output) : (s.emit o).requests = s.requests := rfl
@[simp] theorem emit_out (o : Output) : (s.emit o).out = o := rfl

/-! ### `s.pushWord w` -/

@[simp] theorem pushWord_srcq (w : Word) : (s.pushWord w).srcq = s.srcq ++ [w] := rfl
@[simp] theorem pushWord_acc (w : Word) : (s.pushWord w).acc = s.acc := rfl
@[simp] theorem pushWord_accOvf (w : Word) : (s.pushWord w).accOvf = s.accOvf := rfl
@[simp] theorem pushWord_cmdBuf (w : Word) : (s.pushWord w).cmdBuf = s.cmdBuf := rfl
@[simp] theorem pushWord_cmdReady (w : Word) : (s.pushWord w).cmdReady = s.cmdReady := rfl
@[simp] theorem pushWord_repBuf (w : Word) : (s.pushWord w).repBuf = s.repBuf := rfl
@[simp] theorem pushWord_repReady (w : Word) : (s.pushWord w).repReady = s.repReady := rfl
@[simp] theorem pushWord_commandCode (w : Word) : (s.pushWord w).commandCode = s.commandCode := rfl
@[simp] theorem pushWord_pollPhase (w : Word) : (s.pushWord w).pollPhase = s.pollPhase := rfl
@[simp] theorem pushWord_repeatPolicy (w : Word) : (s.pushWord w).repeatPolicy = s.repeatPolicy := rfl
@[simp] theorem pushWord_fSrc (w : Word) : (s.pushWord w).fSrc = s.fSrc := rfl
@[simp] theorem pushWord_pin (w : Word) : (s.pushWord w).pin = s.pin := rfl
@[simp] theorem pushWord_cfg (w : Word) : (s.pushWord w).cfg = s.cfg := rfl
@[simp] theorem pushWord_frame (w : Word) : (s.pushWord w).frame = s.frame := rfl
@[simp] theorem pushWord_requests (w : Word) : (s.pushWord w).requests = s.requests := rfl
@[simp] theorem pushWord_out (w : Word) : (s.pushWord w).out = s.out := rfl

/-! ### `s.setSrcq q` -/

@[simp] theorem setSrcq_srcq (q : List Word) : (s.setSrcq q).srcq = q := rfl
@[simp] theorem setSrcq_acc (q : List Word) : (s.setSrcq q).acc = s.acc := rfl
@[simp] theorem setSrcq_accOvf (q : List Word) : (s.setSrcq q).accOvf = s.accOvf := rfl
@[simp] theorem setSrcq_cmdBuf (q : List Word) : (s.setSrcq q).cmdBuf = s.cmdBuf := rfl
@[simp] theorem setSrcq_cmdReady (q : List Word) : (s.setSrcq q).cmdReady = s.cmdReady := rfl
@[simp] theorem setSrcq_repBuf (q : List Word) : (s.setSrcq q).repBuf = s.repBuf := rfl
@[simp] theorem setSrcq_repReady (q : List Word) : (s.setSrcq q).repReady = s.repReady := rfl
@[simp] theorem setSrcq_commandCode (q : List Word) : (s.setSrcq q).commandCode = s.commandCode := rfl
@[simp] theorem setSrcq_pollPhase (q : List Word) : (s.setSrcq q).pollPhase = s.pollPhase := rfl
@[simp] theorem setSrcq_repeatPolicy (q : List Word) : (s.setSrcq q).repeatPolicy = s.repeatPolicy := rfl
@[simp] theorem setSrcq_fSrc (q : List Word) : (s.setSrcq q).fSrc = s.fSrc := rfl
@[simp] theorem setSrcq_pin (q : List Word) : (s.setSrcq q).pin = s.pin := rfl
@[simp] theorem setSrcq_cfg (q : List Word) : (s.setSrcq q).cfg = s.cfg := rfl
@[simp] theorem setSrcq_frame (q : List Word) : (s.setSrcq q).frame = s.frame := rfl
@[simp] theorem setSrcq_requests (q : List Word) : (s.setSrcq q).requests = s.requests := rfl
@[simp] theorem setSrcq_out (q : List Word) : (s.setSrcq q).out = s.out := rfl

/-! ### `s.appendAcc w` -/

@[simp] theorem appendAcc_srcq (w : Word) : (s.appendAcc w).srcq = s.srcq := rfl
@[simp] theorem appendAcc_acc (w : Word) : (s.appendAcc w).acc = s.acc ++ [w] := rfl
@[simp] theorem appendAcc_accOvf (w : Word) : (s.appendAcc w).accOvf = s.accOvf := rfl
@[simp] theorem appendAcc_cmdBuf (w : Word) : (s.appendAcc w).cmdBuf = s.cmdBuf := rfl
@[simp] theorem appendAcc_cmdReady (w : Word) : (s.appendAcc w).cmdReady = s.cmdReady := rfl
@[simp] theorem appendAcc_repBuf (w : Word) : (s.appendAcc w).repBuf = s.repBuf := rfl
@[simp] theorem appendAcc_repReady (w : Word) : (s.appendAcc w).repReady = s.repReady := rfl
@[simp] theorem appendAcc_commandCode (w : Word) : (s.appendAcc w).commandCode = s.commandCode := rfl
@[simp] theorem appendAcc_pollPhase (w : Word) : (s.appendAcc w).pollPhase = s.pollPhase := rfl
@[simp] theorem appendAcc_repeatPolicy (w : Word) : (s.appendAcc w).repeatPolicy = s.repeatPolicy := rfl
@[simp] theorem appendAcc_fSrc (w : Word) : (s.appendAcc w).fSrc = s.fSrc := rfl
@[simp] theorem appendAcc_pin (w : Word) : (s.appendAcc w).pin = s.pin := rfl
@[simp] theorem appendAcc_cfg (w : Word) : (s.appendAcc w).cfg = s.cfg := rfl
@[simp] theorem appendAcc_frame (w : Word) : (s.appendAcc w).frame = s.frame := rfl
@[simp] theorem appendAcc_requests (w : Word) : (s.appendAcc w).requests = s.requests := rfl
@[simp] theorem appendAcc_out (w : Word) : (s.appendAcc w).out = s.out := rfl

/-! ### `s.markOverflow` -/

@[simp] theorem markOverflow_srcq : (s.markOverflow).srcq = s.srcq := rfl
@[simp] theorem markOverflow_acc : (s.markOverflow).acc = s.acc := rfl
@[simp] theorem markOverflow_accOvf : (s.markOverflow).accOvf = true := rfl
@[simp] theorem markOverflow_cmdBuf : (s.markOverflow).cmdBuf = s.cmdBuf := rfl
@[simp] theorem markOverflow_cmdReady : (s.markOverflow).cmdReady = s.cmdReady := rfl
@[simp] theorem markOverflow_repBuf : (s.markOverflow).repBuf = s.repBuf := rfl
@[simp] theorem markOverflow_repReady : (s.markOverflow).repReady = s.repReady := rfl
@[simp] theorem markOverflow_commandCode : (s.markOverflow).commandCode = s.commandCode := rfl
@[simp] theorem markOverflow_pollPhase : (s.markOverflow).pollPhase = s.pollPhase := rfl
@[simp] theorem markOverflow_repeatPolicy : (s.markOverflow).repeatPolicy = s.repeatPolicy := rfl
@[simp] theorem markOverflow_fSrc : (s.markOverflow).fSrc = s.fSrc := rfl
@[simp] theorem markOverflow_pin : (s.markOverflow).pin = s.pin := rfl
@[simp] theorem markOverflow_cfg : (s.markOverflow).cfg = s.cfg := rfl
@[simp] theorem markOverflow_frame : (s.markOverflow).frame = s.frame := rfl
@[simp] theorem markOverflow_requests : (s.markOverflow).requests = s.requests := rfl
@[simp] theorem markOverflow_out : (s.markOverflow).out = s.out := rfl

/-! ### `s.clearAcc` -/

@[simp] theorem clearAcc_srcq : (s.clearAcc).srcq = s.srcq := rfl
@[simp] theorem clearAcc_acc : (s.clearAcc).acc = [] := rfl
@[simp] theorem clearAcc_accOvf : (s.clearAcc).accOvf = false := rfl
@[simp] theorem clearAcc_cmdBuf : (s.clearAcc).cmdBuf = s.cmdBuf := rfl
@[simp] theorem clearAcc_cmdReady : (s.clearAcc).cmdReady = s.cmdReady := rfl
@[simp] theorem clearAcc_repBuf : (s.clearAcc).repBuf = s.repBuf := rfl
@[simp] theorem clearAcc_repReady : (s.clearAcc).repReady = s.repReady := rfl
@[simp] theorem clearAcc_commandCode : (s.clearAcc).commandCode = s.commandCode := rfl
@[simp] theorem clearAcc_pollPhase : (s.clearAcc).pollPhase = s.pollPhase := rfl
@[simp] theorem clearAcc_repeatPolicy : (s.clearAcc).repeatPolicy = s.repeatPolicy := rfl
@[simp] theorem clearAcc_fSrc : (s.clearAcc).fSrc = s.fSrc := rfl
@[simp] theorem clearAcc_pin : (s.clearAcc).pin = s.pin := rfl
@[simp] theorem clearAcc_cfg : (s.clearAcc).cfg = s.cfg := rfl
@[simp] theorem clearAcc_frame : (s.clearAcc).frame = s.frame := rfl
@[simp] theorem clearAcc_requests : (s.clearAcc).requests = s.requests := rfl
@[simp] theorem clearAcc_out : (s.clearAcc).out = s.out := rfl

/-! ### `s.storeBurst .command us` -/

@[simp] theorem storeCommand_srcq (us : List Nat) : (s.storeBurst .command us).srcq = s.srcq := rfl
@[simp] theorem storeCommand_acc (us : List Nat) : (s.storeBurst .command us).acc = s.acc := rfl
@[simp] theorem storeCommand_accOvf (us : List Nat) : (s.storeBurst .command us).accOvf = s.accOvf := rfl
@[simp] theorem storeCommand_cmdBuf (us : List Nat) : (s.storeBurst .command us).cmdBuf = us := rfl
@[simp] theorem storeCommand_cmdReady (us : List Nat) : (s.storeBurst .command us).cmdReady = true := rfl
@[simp] theorem storeCommand_repBuf (us : List Nat) : (s.storeBurst .command us).repBuf = s.repBuf := rfl
@[simp] theorem storeCommand_repReady (us : List Nat) : (s.storeBurst .command us).repReady = s.repReady := rfl
@[simp] theorem storeCommand_commandCode (us : List Nat) : (s.storeBurst .command us).commandCode = s.commandCode := rfl
@[simp] theorem storeCommand_pollPhase (us : List Nat) : (s.storeBurst .command us).pollPhase = s.pollPhase := rfl
@[simp] theorem storeCommand_repeatPolicy (us : List Nat) : (s.storeBurst .command us).repeatPolicy = s.repeatPolicy := rfl
@[simp] theorem storeCommand_fSrc (us : List Nat) : (s.storeBurst .command us).fSrc = s.fSrc := rfl
@[simp] theorem storeCommand_pin (us : List Nat) : (s.storeBurst .command us).pin = s.pin := rfl
@[simp] theorem storeCommand_cfg (us : List Nat) : (s.storeBurst .command us).cfg = s.cfg := rfl
@[simp] theorem storeCommand_frame (us : List Nat) : (s.storeBurst .command us).frame = s.frame := rfl
@[simp] theorem storeCommand_requests (us : List Nat) : (s.storeBurst .command us).requests = s.requests := rfl
@[simp] theorem storeCommand_out (us : List Nat) : (s.storeBurst .command us).out = s.out := rfl

/-! ### `s.storeBurst .repeated us` -/

@[simp] theorem storeRepeat_srcq (us : List Nat) : (s.storeBurst .repeated us).srcq = s.srcq := rfl
@[simp] theorem storeRepeat_acc (us : List Nat) : (s.storeBurst .repeated us).acc = s.acc := rfl
@[simp] theorem storeRepeat_accOvf (us : List Nat) : (s.storeBurst .repeated us).accOvf = s.accOvf := rfl
@[simp] theorem storeRepeat_cmdBuf (us : List Nat) : (s.storeBurst .repeated us).cmdBuf = s.cmdBuf := rfl
@[simp] theorem storeRepeat_cmdReady (us : List Nat) : (s.storeBurst .repeated us).cmdReady = s.cmdReady := rfl
@[simp] theorem storeRepeat_repBuf (us : List Nat) : (s.storeBurst .repeated us).repBuf = us := rfl
@[simp] theorem storeRepeat_repReady (us : List Nat) : (s.storeBurst .repeated us).repReady = true := rfl
@[simp] theorem storeRepeat_commandCode (us : List Nat) : (s.storeBurst .repeated us).commandCode = s.commandCode := rfl
@[simp] theorem storeRepeat_pollPhase (us : List Nat) : (s.storeBurst .repeated us).pollPhase = s.pollPhase := rfl
@[simp] theorem storeRepeat_repeatPolicy (us : List Nat) : (s.storeBurst .repeated us).repeatPolicy = s.repeatPolicy := rfl
@[simp] theorem storeRepeat_fSrc (us : List Nat) : (s.storeBurst .repeated us).fSrc = s.fSrc := rfl
@[simp] theorem storeRepeat_pin (us : List Nat) : (s.storeBurst .repeated us).pin = s.pin := rfl
@[simp] theorem storeRepeat_cfg (us : List Nat) : (s.storeBurst .repeated us).cfg = s.cfg := rfl
@[simp] theorem storeRepeat_frame (us : List Nat) : (s.storeBurst .repeated us).frame = s.frame := rfl
@[simp] theorem storeRepeat_requests (us : List Nat) : (s.storeBurst .repeated us).requests = s.requests := rfl
@[simp] theorem storeRepeat_out (us : List Nat) : (s.storeBurst .repeated us).out = s.out := rfl

/-! ### `s.takeBurst .command` -/

@[simp] theorem takeCommand_srcq : (s.takeBurst .command).srcq = s.srcq := rfl
@[simp] theorem takeCommand_acc : (s.takeBurst .command).acc = s.acc := rfl
@[simp] theorem takeCommand_accOvf : (s.takeBurst .command).accOvf = s.accOvf := rfl
@[simp] theorem takeCommand_cmdBuf : (s.takeBurst .command).cmdBuf = [] := rfl
@[simp] theorem takeCommand_cmdReady : (s.takeBurst .command).cmdReady = false := rfl
@[simp] theorem takeCommand_repBuf : (s.takeBurst .command).repBuf = s.repBuf := rfl
@[simp] theorem takeCommand_repReady : (s.takeBurst .command).repReady = s.repReady := rfl
@[simp] theorem takeCommand_commandCode : (s.takeBurst .command).commandCode = s.commandCode := rfl
@[simp] theorem takeCommand_pollPhase : (s.takeBurst .command).pollPhase = s.pollPhase := rfl
@[simp] theorem takeCommand_repeatPolicy : (s.takeBurst .command).repeatPolicy = s.repeatPolicy := rfl
@[simp] theorem takeCommand_fSrc : (s.takeBurst .command).fSrc = s.fSrc := rfl
@[simp] theorem takeCommand_pin : (s.takeBurst .command).pin = s.pin := rfl
@[simp] theorem takeCommand_cfg : (s.takeBurst .command).cfg = s.cfg := rfl
@[simp] theorem takeCommand_frame : (s.takeBurst .command).frame = s.frame := rfl
@[simp] theorem takeCommand_requests : (s.takeBurst .command).requests = s.requests := rfl
@[simp] theorem takeCommand_out : (s.takeBurst .command).out = s.out := rfl

/-! ### `s.takeBurst .repeated` -/

@[simp] theorem takeRepeat_srcq : (s.takeBurst .repeated).srcq = s.srcq := rfl
@[simp] theorem takeRepeat_acc : (s.takeBurst .repeated).acc = s.acc := rfl
@[simp] theorem takeRepeat_accOvf : (s.takeBurst .repeated).accOvf = s.accOvf := rfl
@[simp] theorem takeRepeat_cmdBuf : (s.takeBurst .repeated).cmdBuf = s.cmdBuf := rfl
@[simp] theorem takeRepeat_cmdReady : (s.takeBurst .repeated).cmdReady = s.cmdReady := rfl
@[simp] theorem takeRepeat_repBuf : (s.takeBurst .repeated).repBuf = [] := rfl
@[simp] theorem takeRepeat_repReady : (s.takeBurst .repeated).repReady = false := rfl
@[simp] theorem takeRepeat_commandCode : (s.takeBurst .repeated).commandCode = s.commandCode := rfl
@[simp] theorem takeRepeat_pollPhase : (s.takeBurst .repeated).pollPhase = s.pollPhase := rfl
@[simp] theorem takeRepeat_repeatPolicy : (s.takeBurst .repeated).repeatPolicy = s.repeatPolicy := rfl
@[simp] theorem takeRepeat_fSrc : (s.takeBurst .repeated).fSrc = s.fSrc := rfl
@[simp] theorem takeRepeat_pin : (s.takeBurst .repeated).pin = s.pin := rfl
@[simp] theorem takeRepeat_cfg : (s.takeBurst .repeated).cfg = s.cfg := rfl
@[simp] theorem takeRepeat_frame : (s.takeBurst .repeated).frame = s.frame := rfl
@[simp] theorem takeRepeat_requests : (s.takeBurst .repeated).requests = s.requests := rfl
@[simp] theorem takeRepeat_out : (s.takeBurst .repeated).out = s.out := rfl

/-! ### `s.clearCmdReady` -/

@[simp] theorem clearCmdReady_srcq : (s.clearCmdReady).srcq = s.srcq := rfl
@[simp] theorem clearCmdReady_acc : (s.clearCmdReady).acc = s.acc := rfl
@[simp] theorem clearCmdReady_accOvf : (s.clearCmdReady).accOvf = s.accOvf := rfl
@[simp] theorem clearCmdReady_cmdBuf : (s.clearCmdReady).cmdBuf = s.cmdBuf := rfl
@[simp] theorem clearCmdReady_cmdReady : (s.clearCmdReady).cmdReady = false := rfl
@[simp] theorem clearCmdReady_repBuf : (s.clearCmdReady).repBuf = s.repBuf := rfl
@[simp] theorem clearCmdReady_repReady : (s.clearCmdReady).repReady = s.repReady := rfl
@[simp] theorem clearCmdReady_commandCode : (s.clearCmdReady).commandCode = s.commandCode := rfl
@[simp] theorem clearCmdReady_pollPhase : (s.clearCmdReady).pollPhase = s.pollPhase := rfl
@[simp] theorem clearCmdReady_repeatPolicy : (s.clearCmdReady).repeatPolicy = s.repeatPolicy := rfl
@[simp] theorem clearCmdReady_fSrc : (s.clearCmdReady).fSrc = s.fSrc := rfl
@[simp] theorem clearCmdReady_pin : (s.clearCmdReady).pin = s.pin := rfl
@[simp] theorem clearCmdReady_cfg : (s.clearCmdReady).cfg = s.cfg := rfl
@[simp] theorem clearCmdReady_frame : (s.clearCmdReady).frame = s.frame := rfl
@[simp] theorem clearCmdReady_requests : (s.clearCmdReady).requests = s.requests := rfl
@[simp] theorem clearCmdReady_out : (s.clearCmdReady).out = s.out := rfl

/-! ### `s.setCode w` -/

@[simp] theorem setCode_srcq (w : Word) : (s.setCode w).srcq = s.srcq := rfl
@[simp] theorem setCode_acc (w : Word) : (s.setCode w).acc = s.acc := rfl
@[simp] theorem setCode_accOvf (w : Word) : (s.setCode w).accOvf = s.accOvf := rfl
@[simp] theorem setCode_cmdBuf (w : Word) : (s.setCode w).cmdBuf = s.cmdBuf := rfl
@[simp] theorem setCode_cmdReady (w : Word) : (s.setCode w).cmdReady = s.cmdReady := rfl
@[simp] theorem setCode_repBuf (w : Word) : (s.setCode w).repBuf = s.repBuf := rfl
@[simp] theorem setCode_repReady (w : Word) : (s.setCode w).repReady = s.repReady := rfl
@[simp] theorem setCode_commandCode (w : Word) : (s.setCode w).commandCode = w := rfl
@[simp] theorem setCode_pollPhase (w : Word) : (s.setCode w).pollPhase = s.pollPhase := rfl
@[simp] theorem setCode_repeatPolicy (w : Word) : (s.setCode w).repeatPolicy = s.repeatPolicy := rfl
@[simp] theorem setCode_fSrc (w : Word) : (s.setCode w).fSrc = s.fSrc := rfl
@[simp] theorem setCode_pin (w : Word) : (s.setCode w).pin = s.pin := rfl
@[simp] theorem setCode_cfg (w : Word) : (s.setCode w).cfg = s.cfg := rfl
@[simp] theorem setCode_frame (w : Word) : (s.setCode w).frame = s.frame := rfl
@[simp] theorem setCode_requests (w : Word) : (s.setCode w).requests = s.requests := rfl
@[simp] theorem setCode_out (w : Word) : (s.setCode w).out = s.out := rfl

/-! ### `s.setPhase p` -/

@[simp] theorem setPhase_srcq (p : PollPhase) : (s.setPhase p).srcq = s.srcq := rfl
@[simp] theorem setPhase_acc (p : PollPhase) : (s.setPhase p).acc = s.acc := rfl
@[simp] theorem setPhase_accOvf (p : PollPhase) : (s.setPhase p).accOvf = s.accOvf := rfl
@[simp] theorem setPhase_cmdBuf (p : PollPhase) : (s.setPhase p).cmdBuf = s.cmdBuf := rfl
@[simp] theorem setPhase_cmdReady (p : PollPhase) : (s.setPhase p).cmdReady = s.cmdReady := rfl
@[simp] theorem setPhase_repBuf (p : PollPhase) : (s.setPhase p).repBuf = s.repBuf := rfl
@[simp] theorem setPhase_repReady (p : PollPhase) : (s.setPhase p).repReady = s.repReady := rfl
@[simp] theorem setPhase_commandCode (p : PollPhase) : (s.setPhase p).commandCode = s.commandCode := rfl
@[simp] theorem setPhase_pollPhase (p : PollPhase) : (s.setPhase p).pollPhase = p := rfl
@[simp] theorem setPhase_repeatPolicy (p : PollPhase) : (s.setPhase p).repeatPolicy = s.repeatPolicy := rfl
@[simp] theorem setPhase_fSrc (p : PollPhase) : (s.setPhase p).fSrc = s.fSrc := rfl
@[simp] theorem setPhase_pin (p : PollPhase) : (s.setPhase p).pin = s.pin := rfl
@[simp] theorem setPhase_cfg (p : PollPhase) : (s.setPhase p).cfg = s.cfg := rfl
@[simp] theorem setPhase_frame (p : PollPhase) : (s.setPhase p).frame = s.frame := rfl
@[simp] theorem setPhase_requests (p : PollPhase) : (s.setPhase p).requests = s.requests := rfl
@[simp] theorem setPhase_out (p : PollPhase) : (s.setPhase p).out = s.out := rfl

/-! ### `s.setFrame f` -/

@[simp] theorem setFrame_srcq (f : FrameWalk) : (s.setFrame f).srcq = s.srcq := rfl
@[simp] theorem setFrame_acc (f : FrameWalk) : (s.setFrame f).acc = s.acc := rfl
@[simp] theorem setFrame_accOvf (f : FrameWalk) : (s.setFrame f).accOvf = s.accOvf := rfl
@[simp] theorem setFrame_cmdBuf (f : FrameWalk) : (s.setFrame f).cmdBuf = s.cmdBuf := rfl
@[simp] theorem setFrame_cmdReady (f : FrameWalk) : (s.setFrame f).cmdReady = s.cmdReady := rfl
@[simp] theorem setFrame_repBuf (f : FrameWalk) : (s.setFrame f).repBuf = s.repBuf := rfl
@[simp] theorem setFrame_repReady (f : FrameWalk) : (s.setFrame f).repReady = s.repReady := rfl
@[simp] theorem setFrame_commandCode (f : FrameWalk) : (s.setFrame f).commandCode = s.commandCode := rfl
@[simp] theorem setFrame_pollPhase (f : FrameWalk) : (s.setFrame f).pollPhase = s.pollPhase := rfl
@[simp] theorem setFrame_repeatPolicy (f : FrameWalk) : (s.setFrame f).repeatPolicy = s.repeatPolicy := rfl
@[simp] theorem setFrame_fSrc (f : FrameWalk) : (s.setFrame f).fSrc = s.fSrc := rfl
@[simp] theorem setFrame_pin (f : FrameWalk) : (s.setFrame f).pin = s.pin := rfl
@[simp] theorem setFrame_cfg (f : FrameWalk) : (s.setFrame f).cfg = s.cfg := rfl
@[simp] theorem setFrame_frame (f : FrameWalk) : (s.setFrame f).frame = f := rfl
@[simp] theorem setFrame_requests (f : FrameWalk) : (s.setFrame f).requests = s.requests := rfl
@[simp] theorem setFrame_out (f : FrameWalk) : (s.setFrame f).out = s.out := rfl

/-! ### `s.setRequests rs` -/

@[simp] theorem setRequests_srcq (rs : List Request) : (s.setRequests rs).srcq = s.srcq := rfl
@[simp] theorem setRequests_acc (rs : List Request) : (s.setRequests rs).acc = s.acc := rfl
@[simp] theorem setRequests_accOvf (rs : List Request) : (s.setRequests rs).accOvf = s.accOvf := rfl
@[simp] theorem setRequests_cmdBuf (rs : List Request) : (s.setRequests rs).cmdBuf = s.cmdBuf := rfl
@[simp] theorem setRequests_cmdReady (rs : List Request) : (s.setRequests rs).cmdReady = s.cmdReady := rfl
@[simp] theorem setRequests_repBuf (rs : List Request) : (s.setRequests rs).repBuf = s.repBuf := rfl
@[simp] theorem setRequests_repReady (rs : List Request) : (s.setRequests rs).repReady = s.repReady := rfl
@[simp] theorem setRequests_commandCode (rs : List Request) : (s.setRequests rs).commandCode = s.commandCode := rfl
@[simp] theorem setRequests_pollPhase (rs : List Request) : (s.setRequests rs).pollPhase = s.pollPhase := rfl
@[simp] theorem setRequests_repeatPolicy (rs : List Request) : (s.setRequests rs).repeatPolicy = s.repeatPolicy := rfl
@[simp] theorem setRequests_fSrc (rs : List Request) : (s.setRequests rs).fSrc = s.fSrc := rfl
@[simp] theorem setRequests_pin (rs : List Request) : (s.setRequests rs).pin = s.pin := rfl
@[simp] theorem setRequests_cfg (rs : List Request) : (s.setRequests rs).cfg = s.cfg := rfl
@[simp] theorem setRequests_frame (rs : List Request) : (s.setRequests rs).frame = s.frame := rfl
@[simp] theorem setRequests_requests (rs : List Request) : (s.setRequests rs).requests = rs := rfl
@[simp] theorem setRequests_out (rs : List Request) : (s.setRequests rs).out = s.out := rfl

/-! ### `s.pending` -/

@[simp] theorem pending_command : s.pending .command = s.cmdBuf := rfl
@[simp] theorem pending_repeated : s.pending .repeated = s.repBuf := rfl

end Sys2Proof.Machine
end

