-- ==== Sys2Proof/Laws/Ops.lean ====
section
/-! SUPPORT. One lemma per shared operation: everything it can do. -/

namespace Sys2Proof.Machine

/-- R104: a tick count is stored, or the accumulator is full and only the overflow flag is set. -/
theorem appendTick_cases (w : Word) (s : State) :
    (s.acc.length < s.cfg.accDepth ∧ appendTick w s = s.appendAcc w) ∨
      (s.cfg.accDepth ≤ s.acc.length ∧ appendTick w s = s.markOverflow) := by
  unfold appendTick
  split
  · exact .inl ⟨‹_›, rfl⟩
  · exact .inr ⟨by omega, rfl⟩

/-- R105 to R108: the three ways a burst ends, by the overflow flag and the number of values. -/
theorem finalizeBurst_cases (s : State) :
    (s.accOvf = false ∧ s.acc.length = 2 ∧
        finalizeBurst s = (s.storeBurst .repeated (convertBurst s)).clearAcc) ∨
      (s.accOvf = false ∧ 2 < s.acc.length ∧
        finalizeBurst s = (s.storeBurst .command (convertBurst s)).clearAcc) ∨
      ((s.accOvf = true ∨ s.acc.length < 2) ∧ finalizeBurst s = s.clearAcc) := by
  unfold finalizeBurst storeByLength
  have hlen : (convertBurst s).length = s.acc.length := by simp [convertBurst]
  rw [hlen]
  cases hov : s.accOvf
  · rcases lt_trichotomy s.acc.length 2 with h | h | h
    · exact .inr (.inr ⟨.inr h, by simp [show s.acc.length ≠ 2 by omega, show ¬ 2 < s.acc.length by omega]⟩)
    · exact .inl ⟨rfl, h, by simp [h]⟩
    · exact .inr (.inl ⟨rfl, h, by simp [h, show s.acc.length ≠ 2 by omega]⟩)
  · exact .inr (.inr ⟨.inl rfl, by simp⟩)

/-- R103: a source word finalizes the burst or joins it. -/
theorem acquireWord_cases (w : Word) (s : State) :
    (w = 0xFFFFFFFF#32 ∧ acquireWord w s = finalizeBurst s) ∨
      (w ≠ 0xFFFFFFFF#32 ∧ acquireWord w s = appendTick w s) := by
  unfold acquireWord isMarker Config.timeoutMarker
  by_cases h : w = 0xFFFFFFFF#32
  · exact .inl ⟨h, by simp [h]⟩
  · exact .inr ⟨h, by simp [h]⟩

/-- R110, R186: a property that survives the removal of a word and the acquisition of a word survives a tick. -/
theorem drainWords_induction (P : State → Prop)
    (hword : ∀ (w : Word) (rest : List Word) (s : State), s.srcq = w :: rest → P s → P (acquireWord w (s.setSrcq rest)))
    (hsrcq : ∀ (w : Word) (s : State), (acquireWord w s).srcq = s.srcq) :
    ∀ (q : List Word) (s : State), s.srcq = q → P s → P (drainWords q s) := by
  intro q
  induction q with
  | nil => intro s _ hs; exact hs
  | cons w rest ih =>
    intro s hq hs
    exact ih _ (by rw [hsrcq]; rfl) (hword w rest s hq hs)

/-- What acquiring a word leaves alone: everything the polling context and the environment own (R192). -/
structure SameOutsideAcquisition (s t : State) : Prop where
  srcq : t.srcq = s.srcq
  commandCode : t.commandCode = s.commandCode
  pollPhase : t.pollPhase = s.pollPhase
  repeatPolicy : t.repeatPolicy = s.repeatPolicy
  fSrc : t.fSrc = s.fSrc
  pin : t.pin = s.pin
  cfg : t.cfg = s.cfg
  frame : t.frame = s.frame
  requests : t.requests = s.requests
  out : t.out = s.out

theorem finalizeBurst_frame (s : State) : SameOutsideAcquisition s (finalizeBurst s) := by
  rcases finalizeBurst_cases s with ⟨_, _, h⟩ | ⟨_, _, h⟩ | ⟨_, h⟩ <;> rw [h] <;> constructor <;> rfl

theorem appendTick_frame (w : Word) (s : State) : SameOutsideAcquisition s (appendTick w s) := by
  rcases appendTick_cases w s with ⟨_, h⟩ | ⟨_, h⟩ <;> rw [h] <;> constructor <;> rfl

theorem acquireWord_frame (w : Word) (s : State) : SameOutsideAcquisition s (acquireWord w s) := by
  rcases acquireWord_cases w s with ⟨_, h⟩ | ⟨_, h⟩ <;> rw [h]
  · exact finalizeBurst_frame s
  · exact appendTick_frame w s

/-- R134, R135: what one data pair does to the code under assembly. -/
theorem decodePair_cases (k : Nat) (code : Word) (p1 p2 : Nat) :
    (pairInCode k = false ∧ decodePair k code p1 p2 = .bitIndexOutsideCode) ∨
      (pairInCode k = true ∧ isOnePair p1 p2 = true ∧ decodePair k code p1 p2 = .ok (code ||| codeBit k)) ∨
      (pairInCode k = true ∧ isZeroPair p1 p2 = true ∧ decodePair k code p1 p2 = .ok code) ∨
      (pairInCode k = true ∧ 1680 < p1 + p2 ∧ isOnePair p1 p2 = false ∧ isZeroPair p1 p2 = false ∧
        decodePair k code p1 p2 = .raised .invalidOneBit) ∨
      (pairInCode k = true ∧ p1 + p2 ≤ 1680 ∧ isOnePair p1 p2 = false ∧ isZeroPair p1 p2 = false ∧
        decodePair k code p1 p2 = .raised .invalidZeroBit) := by
  have hone := isOnePair_iff p1 p2
  have hzero := isZeroPair_iff p1 p2
  have hheld := heldToBeOne_iff p1 p2
  unfold decodePair heldOne heldZero
  cases pairInCode k <;> cases h1 : isOnePair p1 p2 <;> cases h0 : isZeroPair p1 p2 <;>
    cases hh : heldToBeOne p1 p2 <;> simp_all <;> omega

/-- R152, R154: a burst of at least two values is valid exactly in the windows of a `REPEAT`. -/
theorem repeatFailure_pair (v0 v1 : Nat) (rest : List Nat) :
    repeatFailure (v0 :: v1 :: rest) = if inRepeatWindows v0 v1 then none else some .invalidRepeatFrame := by
  have h := repeatValid_iff v0 v1
  simp only [repeatFailure]
  by_cases hw : inRepeatWindows v0 v1
  · rw [if_pos hw, if_pos (h.2 hw)]
  · rw [if_neg hw, if_neg (fun hv => hw (h.1 hv))]

/-- R151 to R154: which bursts the repeat handler accepts; a value a burst does not have is in no window. -/
theorem repeatFailure_eq_none_iff (b : List Nat) :
    repeatFailure b = none ↔ inRepeatWindows (b.getD 0 0) (b.getD 1 0) := by
  match b with
  | [] => simp [repeatFailure]
  | [_] => simp [repeatFailure]
  | v0 :: v1 :: rest =>
    rw [repeatFailure_pair]
    split
    · exact iff_of_true rfl ‹_›
    · exact iff_of_false (by simp) ‹_›

/-- R153: the policy writes the sentinel or nothing. -/
theorem applyRepeatPolicy_eq (s : State) :
    applyRepeatPolicy s = s.setCode (if s.repeatPolicy then s.commandCode else 0xFFFFFFFF#32) := by
  unfold applyRepeatPolicy Config.repeatSentinel
  cases s.repeatPolicy <;> rfl

/-- R161: the three ways the command path ends. -/
theorem commandPath_cases (s : State) :
    (∃ code, decodeFrame s.cmdBuf = .ok code ∧
        commandPath s = .next (((s.takeBurst .command).setCode code).emit (.reply true .okCommand))) ∨
      (∃ f, decodeFrame s.cmdBuf = .raised f ∧
        commandPath s = .next ((s.takeBurst .command).emit (.reply false (.failed f)))) ∨
      (decodeFrame s.cmdBuf = .bitIndexOutsideCode ∧ commandPath s = .fault .bitIndexOutsideCode) := by
  unfold commandPath
  simp only [pending_command]
  cases h : decodeFrame s.cmdBuf with
  | ok code => exact .inl ⟨code, rfl, rfl⟩
  | raised f => exact .inr (.inl ⟨f, rfl, rfl⟩)
  | bitIndexOutsideCode => exact .inr (.inr ⟨rfl, rfl⟩)

/-- R162: the two ways the repeat path ends. -/
theorem repeatPath_cases (s : State) :
    (repeatFailure s.repBuf = none ∧
        repeatPath s = .next ((applyRepeatPolicy (s.takeBurst .repeated).clearCmdReady).emit (.reply true .okRepeat))) ∨
      (∃ f, repeatFailure s.repBuf = some f ∧
        repeatPath s = .next ((s.takeBurst .repeated).clearCmdReady.emit (.reply false (.failed f)))) := by
  unfold repeatPath
  simp only [pending_repeated]
  cases h : repeatFailure s.repBuf with
  | none => exact .inl ⟨rfl, rfl⟩
  | some f => exact .inr ⟨f, rfl, rfl⟩

/-- R162, R163: with no command burst ready, the repeat path or the idle reply. -/
theorem repeatOrIdle_cases (s : State) :
    (s.repReady = true ∧ repeatOrIdle s = repeatPath s) ∨
      (s.repReady = false ∧ repeatOrIdle s = .next (s.emit (.reply false .noBurst))) := by
  unfold repeatOrIdle
  cases s.repReady
  · exact .inr ⟨rfl, rfl⟩
  · exact .inl ⟨rfl, rfl⟩

/-- R160: the command path first. -/
theorem pollWhole_cases (s : State) :
    (s.cmdReady = true ∧ pollWhole s = commandPath s) ∨ (s.cmdReady = false ∧ pollWhole s = repeatOrIdle s) := by
  unfold pollWhole
  cases s.cmdReady
  · exact .inr ⟨rfl, rfl⟩
  · exact .inl ⟨rfl, rfl⟩

/-- One symbol of a frame: the working values move, or the failure is the output, or the bit is outside the code. -/
theorem keepPair_cases (r : FrameResult) (s : State) :
    (∃ code, r = .ok code ∧ keepPair r s = .next ((s.setFrame ⟨s.frame.i + 2, code⟩).emit .silent)) ∨
      (∃ f, r = .raised f ∧ keepPair r s = .next (s.emit (.raised f))) ∨
      (r = .bitIndexOutsideCode ∧ keepPair r s = .fault .bitIndexOutsideCode) := by
  cases r with
  | ok code => exact .inl ⟨code, rfl, rfl⟩
  | raised f => exact .inr (.inl ⟨f, rfl, rfl⟩)
  | bitIndexOutsideCode => exact .inr (.inr ⟨rfl, rfl⟩)

/-- R51, R137: the walk over at most 32 pairs never leaves the code. -/
theorem walkPairs_inCode : ∀ (ps : List Nat) (k : Nat) (code : Word), 1 ≤ k → ps.length / 2 + k ≤ 33 →
    walkPairs ps k code ≠ .bitIndexOutsideCode
  | [], _, _, _, _ => by simp [walkPairs]
  | [_], _, _, _, _ => by simp [walkPairs]
  | p1 :: p2 :: rest, k, code, hk, hlen => by
    have hin : pairInCode k = true := (pairInCode_iff k).2 ⟨hk, by simp at hlen; omega⟩
    unfold walkPairs
    rcases decodePair_cases k code p1 p2 with ⟨h, _⟩ | ⟨_, _, h⟩ | ⟨_, _, h⟩ | ⟨_, _, _, _, h⟩ | ⟨_, _, _, _, h⟩
    · rw [hin] at h; cases h
    all_goals rw [h]
    · exact walkPairs_inCode rest (k + 1) _ (by omega) (by simp at hlen; omega)
    · exact walkPairs_inCode rest (k + 1) _ (by omega) (by simp at hlen; omega)
    all_goals simp

/-- R137: a burst of at most 67 values decodes to a code or a failure, never to a bit outside the code. -/
theorem decodeFrame_inCode (b : List Nat) (h : b.length ≤ 67) : decodeFrame b ≠ .bitIndexOutsideCode := by
  match b, h with
  | [], _ => simp [decodeFrame]
  | [_], _ => simp [decodeFrame]
  | v0 :: v1 :: rest, h =>
    simp only [decodeFrame]
    split
    · exact walkPairs_inCode rest 1 _ (by omega) (by simp at h; omega)
    · simp

end Sys2Proof.Machine
end

