-- ==== Sys2Proof/Laws/PerInstr.lean ====
section
/-! SUPPORT. The round trip of the encoding, one lemma per constructor. -/

namespace Sys2Proof.Laws

open Sys2Proof.Machine

/-- Decoding the request that carries a well-formed instruction gives the instruction back. -/
def RoundTrip.Statement (i : Instr) : Prop := i.wellFormed = true → decode (encode i) = .ok i

theorem asWord_toNat (w : Word) (f : Word → Except DecodeError Instr) : asWord w.toNat f = f w := by
  have h := w.isLt
  simp [asWord, h]

theorem asPair_fits (c : Channel) (p1 p2 : Nat) (f : Nat → Nat → Instr) (h1 : p1 < 2 ^ 53) (h2 : p2 < 2 ^ 53) :
    asPair ⟨c, [p1, p2]⟩ f = .ok (f p1 p2) := by
  simp [asPair, twoValues, asMicros, (fitsMicros_iff p1).2 h1, (fitsMicros_iff p2).2 h2]

theorem RoundTrip.timeout : RoundTrip.Statement .timeout := fun _ => by decide

theorem RoundTrip.tick (t : Word) : RoundTrip.Statement (.tick t) := fun h => by
  have ht : isMarker t = false := by simpa [Instr.wellFormed] using h
  simp [decode, encode, oneValue, asWord_toNat, decodeSourceWord, ht]

theorem RoundTrip.start (p1 p2 : Nat) : RoundTrip.Statement (.start p1 p2) := fun h => by
  simp only [Instr.wellFormed, Bool.and_eq_true, fitsMicros_iff] at h
  simp only [decode, encode]
  rw [asPair_fits _ _ _ _ h.1.1 h.1.2, decodeStartPair, if_pos h.2]

theorem RoundTrip.zero (p1 p2 : Nat) : RoundTrip.Statement (.zero p1 p2) := fun h => by
  have hz : isZeroPair p1 p2 = true := h
  have hw := (isZeroPair_iff p1 p2).1 hz
  have hs : ¬ heldToBeOne p1 p2 = true := by rw [heldToBeOne_iff]; omega
  simp only [decode, encode]
  rw [asPair_fits _ _ _ _ (by omega) (by omega), decodeDataPair, if_neg hs, if_pos hz]

theorem RoundTrip.one (p1 p2 : Nat) : RoundTrip.Statement (.one p1 p2) := fun h => by
  have ho : isOnePair p1 p2 = true := h
  have hw := (isOnePair_iff p1 p2).1 ho
  have hs : heldToBeOne p1 p2 = true := by rw [heldToBeOne_iff]; omega
  simp only [decode, encode]
  rw [asPair_fits _ _ _ _ (by omega) (by omega), decodeDataPair, if_pos hs, if_pos ho]

theorem RoundTrip.repeatPair (p1 p2 : Nat) : RoundTrip.Statement (.repeatPair p1 p2) := fun h => by
  have hv : repeatValid p1 p2 = true := h
  have hw := (repeatValid_iff p1 p2).1 hv
  simp only [decode, encode]
  rw [asPair_fits _ _ _ _ (by omega) (by omega), decodeRepeatPair, if_pos hv]

theorem RoundTrip.envPush (w : Word) : RoundTrip.Statement (.envPush w) := fun _ => by
  simp [decode, encode, oneValue, asWord_toNat]

theorem RoundTrip.acqWord : RoundTrip.Statement .acqWord := fun _ => rfl

theorem RoundTrip.append (w : Word) : RoundTrip.Statement (.append w) := fun h => by
  have hw : isMarker w = false := by simpa [Instr.wellFormed] using h
  simp [decode, encode, oneValue, asTick, asWord_toNat, hw]

theorem RoundTrip.finalize : RoundTrip.Statement .finalize := fun _ => rfl

theorem RoundTrip.acqTick : RoundTrip.Statement .acqTick := fun _ => rfl

theorem RoundTrip.toUs (t : Word) : RoundTrip.Statement (.toUs t) := fun _ => by
  simp [decode, encode, oneValue, asWord_toNat]

theorem RoundTrip.matchTest (v e : Nat) : RoundTrip.Statement (.matchTest v e) := fun h => by
  simp only [Instr.wellFormed, Bool.and_eq_true, decide_eq_true_eq] at h
  simp [decode, encode, twoValues, asMicros, h.1, h.2]

theorem RoundTrip.isZero (p1 p2 : Nat) : RoundTrip.Statement (.isZero p1 p2) := fun h => by
  simp only [Instr.wellFormed, Bool.and_eq_true, fitsMicros_iff] at h
  simp only [decode, encode]
  rw [asPair_fits _ _ _ _ h.1 h.2]

theorem RoundTrip.isOne (p1 p2 : Nat) : RoundTrip.Statement (.isOne p1 p2) := fun h => by
  simp only [Instr.wellFormed, Bool.and_eq_true, fitsMicros_iff] at h
  simp only [decode, encode]
  rw [asPair_fits _ _ _ _ h.1 h.2]

theorem RoundTrip.frameDecode (b : List Nat) : RoundTrip.Statement (.frameDecode b) := fun h => by
  have hb : b.all fitsMicros = true := h
  exact if_pos hb

theorem RoundTrip.repeatHandle (b : List Nat) : RoundTrip.Statement (.repeatHandle b) := fun h => by
  have hb : b.all fitsMicros = true := h
  exact if_pos hb

theorem RoundTrip.poll : RoundTrip.Statement .poll := fun _ => rfl

theorem RoundTrip.pollA : RoundTrip.Statement .pollA := fun _ => rfl

theorem RoundTrip.pollB : RoundTrip.Statement .pollB := fun _ => rfl

theorem RoundTrip.readCode : RoundTrip.Statement .readCode := fun _ => rfl

theorem RoundTrip.take (kind : BurstKind) : RoundTrip.Statement (.take kind) := fun _ => by
  cases kind <;> rfl

theorem RoundTrip.reset (pin : Nat) (policy : Bool) (fSrc : Nat) (cfg : Config) :
    RoundTrip.Statement (.reset pin policy fSrc cfg) := fun _ => by
  obtain ⟨accDepth, fifoDepth, overflow, code, atomic, hz⟩ := cfg
  cases policy <;> cases overflow <;> cases atomic <;>
    simp [decode, encode, decodeReset, asBit, asWord_toNat]

theorem RoundTrip.okCommand : RoundTrip.Statement .okCommand := fun _ => rfl

theorem RoundTrip.okRepeat : RoundTrip.Statement .okRepeat := fun _ => rfl

theorem RoundTrip.noBurst : RoundTrip.Statement .noBurst := fun _ => rfl

theorem RoundTrip.insufficientData : RoundTrip.Statement .insufficientData := fun _ => rfl

theorem RoundTrip.invalidStartSequence : RoundTrip.Statement .invalidStartSequence := fun _ => rfl

theorem RoundTrip.invalidZeroBit : RoundTrip.Statement .invalidZeroBit := fun _ => rfl

theorem RoundTrip.invalidOneBit : RoundTrip.Statement .invalidOneBit := fun _ => rfl

theorem RoundTrip.invalidRepeatFrame : RoundTrip.Statement .invalidRepeatFrame := fun _ => rfl

theorem RoundTrip.repeatSentinel : RoundTrip.Statement .repeatSentinel := fun _ => by decide

end Sys2Proof.Laws
end

