-- ==== Sys2Proof/Tests/Slice0.lean ====
section
/-! SUPPORT. The model's own tests. Expected results are the spec's: `V<n>` and `S<n>` are vectors of `95_test_vectors.md`,
`R<n>` the numbered rules. The theorems `test_witness_…` show states and operands that meet the hypotheses of the statement
they name. -/

open Sys2Proof Sys2Proof.Machine

/-! ### Helpers -/

/-- A field of the next state. -/
def Tests.after {α : Type} (r : Result) (f : State → α) : Option α :=
  match r with
  | .next t => some (f t)
  | .fault _ => none
  | .refused _ => none

/-- The fault a step ends in. -/
def Tests.faultOf (r : Result) : Option Fault :=
  match r with
  | .next _ => none
  | .fault f => some f
  | .refused _ => none

/-- The refusal a step ends in. -/
def Tests.refusalOf (r : Result) : Option Refusal :=
  match r with
  | .next _ => none
  | .fault _ => none
  | .refused f => some f

/-- The reset state with a burst being received. -/
def Tests.receiving (acc : List Word) : State := { State.reset with acc := acc }

/-- The reset state with words waiting. -/
def Tests.queued (q : List Word) : State := { State.reset with srcq := q }

/-- The reset state with a pending command burst and a code already decoded. -/
def Tests.command (b : List Nat) (code : Word) : State :=
  { State.reset with cmdBuf := b, cmdReady := true, commandCode := code }

/-- The reset state with a pending repeat burst. -/
def Tests.repeated (b : List Nat) (policy : Bool) (code : Word) : State :=
  { State.reset with repBuf := b, repReady := true, repeatPolicy := policy, commandCode := code }

/-- An instance with the split poll. -/
def Tests.splitCfg : Config := { Config.default with pollAtomic := false }

/-- A split poll between its halves, with both kinds pending. -/
def Tests.between (cmdReady repReady : Bool) : State :=
  { State.reset with
    cfg := Tests.splitCfg, pollPhase := .repeatCheck, cmdBuf := [9000, 4500, 562, 1679], cmdReady := cmdReady,
    repBuf := [9000, 2250], repReady := repReady }

/-- The reset state inside a frame, at walk index `i`. -/
def Tests.walking (i : Nat) (code : Word) : State := { State.reset with frame := ⟨i, code⟩ }

/-- An instance with a queue of one word. -/
def Tests.tiny (o : SrcOverflow) : State :=
  { State.reset with srcq := [5#32], cfg := { Config.default with srcFifoDepth := 1, srcOverflow := o } }

open Tests

/-! ### WellFormed refuses what its row does not have -/

theorem test_wf_tick_marker : (Instr.tick 0xFFFFFFFF#32).wellFormed = false := by decide
theorem test_wf_append_marker : (Instr.append 0xFFFFFFFF#32).wellFormed = false := by decide
theorem test_wf_start_windows : (Instr.start 7500 5625).wellFormed = false := by decide
theorem test_wf_start_width :
    (Instr.start 9000 9007199254740992).wellFormed = false ∧ (Instr.start 9007199254740992 4500).wellFormed = false := by decide
theorem test_wf_zero_windows : (Instr.zero 562 700).wellFormed = false := by decide
theorem test_wf_one_windows : (Instr.one 562 1400).wellFormed = false := by decide
theorem test_wf_repeat_windows : (Instr.repeatPair 9000 2813).wellFormed = false := by decide
theorem test_wf_match_expected : (Instr.matchTest 562 561).wellFormed = false := by decide
theorem test_wf_match_width : (Instr.matchTest 9007199254740992 560).wellFormed = false := by decide
theorem test_wf_is_zero_width :
    (Instr.isZero 9007199254740992 0).wellFormed = false ∧ (Instr.isZero 0 9007199254740992).wellFormed = false := by decide
theorem test_wf_is_one_width :
    (Instr.isOne 9007199254740992 0).wellFormed = false ∧ (Instr.isOne 0 9007199254740992).wellFormed = false := by decide
theorem test_wf_burst_width :
    (Instr.frameDecode [9000, 9007199254740992]).wellFormed = false ∧
    (Instr.repeatHandle [9000, 9007199254740992]).wellFormed = false := by decide

/-! ### The decoder rejects by name -/

theorem test_decode_rejects_arity : decode ⟨.poll, [1]⟩ = .error (.wrongArity .poll) := by decide
theorem test_decode_rejects_wide_word : decode ⟨.src, [0x100000000]⟩ = .error .wordTooWide := by decide
theorem test_decode_rejects_marker_tick : decode ⟨.append, [0xFFFFFFFF]⟩ = .error .markerAsTick := by decide
theorem test_decode_rejects_expected : decode ⟨.matchTest, [562, 561]⟩ = .error .unknownExpected := by decide
theorem test_decode_rejects_micros : decode ⟨.isZero, [9007199254740992, 0]⟩ = .error .microsTooWide := by decide
theorem test_decode_rejects_status : decode ⟨.status, [8]⟩ = .error .statusTooWide := by decide
theorem test_decode_rejects_code : decode ⟨.codeValue, [5]⟩ = .error .notSentinel := by decide
theorem test_decode_rejects_bit : decode ⟨.take, [2]⟩ = .error .notABit := by decide
theorem test_decode_rejects_length : decodeTableWord 16 0 = none := by decide

/-! ### Decoding, one test per family, the words written out from the spec's encodings (R70, R75, R77, R78, R81) -/

theorem test_decode_source_words :
    decodeTableWord 32 0b11111111111111111111111111111111 = some .timeout ∧
    decodeTableWord 32 0b11111111111111111111111111111110 = some (.tick 0xFFFFFFFE#32) ∧
    decodeTableWord 32 0b00000000000000000000010010000000 = some (.tick 1152#32) ∧
    decodeTableWord 32 0 = some (.tick 0#32) := by decide

theorem test_decode_statuses :
    decodeTableWord 8 0b000 = some .okCommand ∧ decodeTableWord 8 0b001 = some .okRepeat ∧
    decodeTableWord 8 0b010 = some .noBurst ∧ decodeTableWord 8 0b011 = some .insufficientData ∧
    decodeTableWord 8 0b100 = some .invalidStartSequence ∧ decodeTableWord 8 0b101 = some .invalidZeroBit ∧
    decodeTableWord 8 0b110 = some .invalidOneBit ∧ decodeTableWord 8 0b111 = some .invalidRepeatFrame := by decide

theorem test_decode_symbols :
    decode ⟨.startPair, [9000, 4500]⟩ = .ok (.start 9000 4500) ∧
    decode ⟨.dataPair, [562, 562]⟩ = .ok (.zero 562 562) ∧
    decode ⟨.dataPair, [562, 1679]⟩ = .ok (.one 562 1679) ∧
    decode ⟨.repeatPair, [9000, 2250]⟩ = .ok (.repeatPair 9000 2250) := by decide

theorem test_decode_symbol_failures :
    decode ⟨.startPair, [7500, 5625]⟩ = .ok .invalidStartSequence ∧
    decode ⟨.dataPair, [562, 1118]⟩ = .ok .invalidZeroBit ∧
    decode ⟨.dataPair, [562, 1119]⟩ = .ok .invalidOneBit ∧
    decode ⟨.repeatPair, [9000, 2813]⟩ = .ok .invalidRepeatFrame := by decide

theorem test_decode_agent_steps :
    decode ⟨.src, [0x480]⟩ = .ok (.envPush 1152#32) ∧ decode ⟨.acqWord, []⟩ = .ok .acqWord ∧
    decode ⟨.acqTick, []⟩ = .ok .acqTick ∧ decode ⟨.poll, []⟩ = .ok .poll ∧ decode ⟨.pollA, []⟩ = .ok .pollA ∧
    decode ⟨.pollB, []⟩ = .ok .pollB ∧ decode ⟨.commandCode, []⟩ = .ok .readCode := by decide

theorem test_decode_sub_operations :
    decode ⟨.append, [72]⟩ = .ok (.append 72#32) ∧ decode ⟨.finalize, []⟩ = .ok .finalize ∧
    decode ⟨.frameDecode, [9000, 4500]⟩ = .ok (.frameDecode [9000, 4500]) ∧
    decode ⟨.repeatHandle, [9000, 2250]⟩ = .ok (.repeatHandle [9000, 2250]) ∧
    decode ⟨.take, [0]⟩ = .ok (.take .command) ∧ decode ⟨.take, [1]⟩ = .ok (.take .repeated) := by decide

theorem test_decode_functions :
    decode ⟨.toUs, [1152]⟩ = .ok (.toUs 1152#32) ∧ decode ⟨.matchTest, [699, 560]⟩ = .ok (.matchTest 699 560) ∧
    decode ⟨.isZero, [562, 562]⟩ = .ok (.isZero 562 562) ∧ decode ⟨.isOne, [562, 1679]⟩ = .ok (.isOne 562 1679) := by decide

theorem test_decode_reset :
    decode ⟨.rst, [0, 1, 256000, 67, 8, 0, 0, 1, 4000]⟩ =
      .ok (.reset 0 true 256000 ⟨67, 8, .dropNew, 0#32, true, 4000⟩) := by decide

theorem test_decode_sentinel : decode ⟨.codeValue, [0xFFFFFFFF]⟩ = .ok .repeatSentinel := by decide

/-! ### One step, the spec's vectors -/

/-- V29. -/
theorem test_timeout_stores_repeat :
    after (exec .timeout (receiving [0x480#32, 0x120#32])) (fun t => (t.repBuf, t.repReady, t.acc)) =
      some ([9000, 2250], true, []) := by decide
/-- V27. -/
theorem test_timeout_drops_one_value :
    after (exec .timeout (receiving [0x48#32])) (fun t => (t.repReady, t.cmdReady, t.acc)) = some (false, false, []) := by decide
/-- V29c. -/
theorem test_tick_appends :
    after (exec (.tick 0x48#32) (receiving [1152#32, 576#32])) State.acc = some [1152#32, 576#32, 72#32] := by decide
/-- V33, V35. -/
theorem test_start_quirk :
    after (exec (.start 100 4500) State.reset) State.out = some .silent ∧
    after (exec (.start 100 100) State.reset) State.out = some (.raised .invalidStartSequence) := by decide
/-- V38: the second pair. -/
theorem test_one_sets_bit_30 :
    after (exec (.one 562 1679) (walking 4 0#32)) State.frame = some ⟨6, 0x40000000#32⟩ := by decide
/-- R135: a `0` leaves its bit. -/
theorem test_zero_moves_on :
    after (exec (.zero 467 699) (walking 4 0x80000000#32)) State.frame = some ⟨6, 0x80000000#32⟩ := by decide
/-- R137: the 33rd pair. -/
theorem test_pair_33_faults :
    faultOf (exec (.one 562 1679) (walking 66 0#32)) = some .bitIndexOutsideCode ∧
    after (exec (.one 562 1679) (walking 64 0#32)) State.frame = some ⟨66, 1#32⟩ := by decide
/-- V46, V47. -/
theorem test_repeat_pair_policy :
    after (exec (.repeatPair 9000 2250) (repeated [] false 7#32)) State.commandCode = some 0xFFFFFFFF#32 ∧
    after (exec (.repeatPair 9000 2250) (repeated [] true 7#32)) State.commandCode = some 7#32 := by decide
/-- R102. -/
theorem test_env_push_tail :
    after (exec (.envPush 9#32) (queued [7#32])) State.srcq = some [7#32, 9#32] := by decide
/-- R102 under both values of SRC_OVERFLOW. -/
theorem test_env_push_full :
    after (exec (.envPush 9#32) (tiny .dropNew)) (fun t => (t.srcq, t.out)) = some ([5#32], .silent) ∧
    after (exec (.envPush 9#32) (tiny .stall)) (fun t => (t.srcq, t.out)) = some ([5#32], .notEnabled) := by decide
/-- R103: the head, not the tail. -/
theorem test_acq_word_head :
    after (exec .acqWord (queued [7#32, 9#32])) (fun t => (t.srcq, t.acc)) = some ([9#32], [7#32]) := by decide
/-- V29f, R104. -/
theorem test_append_overflow :
    after (exec (.append 0x48#32) (receiving (List.replicate 67 0x48#32))) (fun t => (t.accOvf, t.acc.length)) =
      some (true, 67) := rfl
/-- V29b. -/
theorem test_finalize_command :
    after (exec .finalize (receiving [0x480#32, 0x120#32, 0x48#32])) (fun t => (t.cmdBuf, t.cmdReady, t.repReady)) =
      some ([9000, 2250, 562], true, false) := by decide
/-- V29e: an overflowed burst is dropped. -/
theorem test_finalize_overflow :
    after (exec .finalize { receiving [1#32, 2#32, 3#32] with accOvf := true }) (fun t => (t.cmdReady, t.acc, t.accOvf)) =
      some (false, [], false) := by decide
/-- V29h. -/
theorem test_acq_tick_two_bursts :
    after (exec .acqTick (queued [0x480#32, 0x240#32, 0x48#32, 0xD7#32, 0xFFFFFFFF#32, 0x480#32, 0x120#32, 0xFFFFFFFF#32]))
      (fun t => (t.cmdBuf, t.cmdReady, t.repBuf, t.repReady)) =
      some ([9000, 4500, 562, 1679], true, [9000, 2250], true) := by decide
/-- V21, V24, V25, V26. -/
theorem test_to_us :
    [1152#32, 72#32, 215#32, 1#32].map (fun t => after (exec (.toUs t) State.reset) State.out) =
      [some (.micros 9000), some (.micros 562), some (.micros 1679), some (.micros 7)] := by decide
/-- V26d: the largest value. -/
theorem test_to_us_largest :
    after (exec (.toUs 0xFFFFFFFE#32) { State.reset with fSrc := ⟨1, by decide⟩ }) State.out =
      some (.micros 8589934588000000) := by decide
/-- V5 to V8, V10 to V14: both edges of each window. -/
theorem test_match_edges :
    [(699, 560), (700, 560), (467, 560), (466, 560), (1401, 1680), (1400, 1680), (2099, 1680), (2100, 1680), (7501, 9000),
      (7500, 9000), (11249, 9000), (11250, 9000), (3751, 4500), (3750, 4500), (1876, 2250), (2812, 2250), (2813, 2250)].map
      (fun p => after (exec (.matchTest p.1 p.2) State.reset) State.out) =
    [true, false, true, false, true, false, true, false, true, false, true, false, true, false, true, true, false].map
      (fun b => some (.truth b)) := by decide
/-- V15. -/
theorem test_is_zero :
    [(562, 562), (467, 699), (562, 700), (466, 562)].map
      (fun p => after (exec (.isZero p.1 p.2) State.reset) State.out) =
    [true, true, false, false].map (fun b => some (.truth b)) := by decide
/-- V16, V17. -/
theorem test_is_one :
    [(562, 1679), (699, 2099), (562, 1400), (700, 1679), (562, 562)].map
      (fun p => after (exec (.isOne p.1 p.2) State.reset) State.out) =
    [true, true, false, false, false].map (fun b => some (.truth b)) := by decide
/-- V38, V39. -/
theorem test_frame_decode_codes :
    after (exec (.frameDecode [9000, 4500, 562, 562, 562, 1679]) State.reset) State.out = some (.frameOk 0x40000000#32) ∧
    after (exec (.frameDecode [9000, 4500, 562, 1679, 9999]) State.reset) State.out = some (.frameOk 0x80000000#32) := by decide
/-- V42, V43, V44. -/
theorem test_frame_decode_failures :
    [[562, 1679, 562, 1400, 562, 1679], [562, 700, 562, 1400], [562, 1118], [562, 1119]].map
      (fun ps => after (exec (.frameDecode ([9000, 4500] ++ ps)) State.reset) State.out) =
    [.invalidOneBit, .invalidZeroBit, .invalidZeroBit, .invalidOneBit].map (fun f => some (.raised f)) := by decide
/-- V48 and V50, V52. -/
theorem test_repeat_handle :
    after (exec (.repeatHandle [7501, 1876]) (repeated [] false 5#32)) State.commandCode = some 0xFFFFFFFF#32 ∧
    after (exec (.repeatHandle [9000, 4500]) (repeated [] false 5#32)) (fun t => (t.commandCode, t.out)) =
      some (5#32, .raised .invalidRepeatFrame) ∧
    after (exec (.repeatHandle [9000]) (repeated [] false 5#32)) State.out = some (.raised .insufficientData) := by decide
/-- V54. -/
theorem test_poll_command :
    after (exec .poll (command [9000, 4500, 562, 1679] 5#32)) (fun t => (t.out, t.commandCode, t.cmdReady, t.cmdBuf)) =
      some (.reply true .okCommand, 0x80000000#32, false, []) := by decide
/-- V55. -/
theorem test_poll_command_fails :
    after (exec .poll (command [9000, 4500, 562, 1400] 5#32)) (fun t => (t.out, t.commandCode, t.cmdReady, t.cmdBuf)) =
      some (.reply false (.failed .invalidOneBit), 5#32, false, []) := by decide
/-- R165: the first half of an idle split poll. -/
theorem test_poll_a_waits :
    after (exec .pollA { State.reset with cfg := splitCfg }) (fun t => (t.pollPhase, t.out)) =
      some (.repeatCheck, .silent) := by decide
/-- R165, R215: the cross-kind clear drops the flag and keeps the buffer. -/
theorem test_poll_b_cross_clear :
    after (exec .pollB (between true true)) (fun t => (t.out, t.cmdReady, t.cmdBuf, t.pollPhase)) =
      some (.reply true .okRepeat, false, [9000, 4500, 562, 1679], .idle) := by decide
/-- V60. -/
theorem test_read_code : after (exec .readCode State.reset) State.out = some (.code 0#32) := by decide
/-- R59. -/
theorem test_take :
    after (exec (.take .command) (command [9000, 4500, 562] 5#32)) (fun t => (t.out, t.cmdBuf, t.cmdReady)) =
      some (.burst [9000, 4500, 562], [], false) := by decide
/-- R210 and R9. -/
theorem test_reset :
    after (exec (.reset 3 true 1000000 ⟨34, 1, .dropNew, 9#32, false, 1⟩) (command [1, 2, 3] 5#32))
      (fun t => (t.commandCode, t.cmdReady, t.cmdBuf, t.repeatPolicy, t.pin)) = some (9#32, false, [], true, 3) ∧
    refusalOf (exec (.reset 0 false 0 Config.default) State.reset) = some .invalidInstance := by decide
/-- R161: the code the symbols assembled. -/
theorem test_ok_command :
    after (exec .okCommand (walking 6 0x40000000#32)) (fun t => (t.commandCode, t.out)) =
      some (0x40000000#32, .reply true .okCommand) := by decide
/-- R78. -/
theorem test_replies :
    [Instr.okRepeat, .noBurst, .insufficientData, .invalidStartSequence, .invalidZeroBit, .invalidOneBit,
      .invalidRepeatFrame].map (fun i => after (exec i State.reset) State.out) =
    [some (.reply true .okRepeat), some (.reply false .noBurst), some (.reply false (.failed .insufficientData)),
      some (.reply false (.failed .invalidStartSequence)), some (.reply false (.failed .invalidZeroBit)),
      some (.reply false (.failed .invalidOneBit)), some (.reply false (.failed .invalidRepeatFrame))] := by decide
/-- R77, R153. -/
theorem test_sentinel :
    after (exec .repeatSentinel (repeated [] false 5#32)) State.commandCode = some 0xFFFFFFFF#32 ∧
    after (exec .repeatSentinel (repeated [] true 5#32)) State.commandCode = some 5#32 := by decide
/-- Placing a word and stepping runs it (R70, log 11). -/
theorem test_step_runs_placed_word :
    after (step (State.reset.withFetchWord 32 0x480)) (fun t => (t.acc, t.requests)) = some ([1152#32], []) := by decide
/-- A request no port carries is refused by name (log 2). -/
theorem test_step_refuses_undecodable :
    refusalOf (step { State.reset with requests := [⟨.status, [8]⟩] }) = some (.undecodable .statusTooWide) := by decide

/-! ### Witnesses of the statements' hypotheses -/

/-- `State.Inv` of a state with nothing pending. -/
theorem Tests.inv_of_idle (s : State) (hc : s.cfg.valid = true) (hq : s.srcq.length ≤ s.cfg.srcFifoDepth)
    (ha : s.acc = []) (ho : s.accOvf = false) (hcb : s.cmdBuf = []) (hcr : s.cmdReady = false) (hrb : s.repBuf = [])
    (hrr : s.repReady = false) (hp : s.pollPhase = .idle) : s.Inv := by
  constructor <;> simp_all

theorem test_witness_DecodeInvertsEncode :
    (Instr.one 699 2099).wellFormed = true ∧ (Instr.tick 0xFFFFFFFE#32).wellFormed = true ∧
    (Instr.matchTest 9007199254740991 9000).wellFormed = true := by decide

theorem test_witness_DecodedInstructionIsWellFormed :
    decode ⟨.dataPair, [467, 1401]⟩ = .ok (.one 467 1401) := by decide

theorem test_witness_DataPairDecodesByWindows :
    9007199254740991 < 2 ^ 53 ∧ inZeroWindows 699 699 ∧ inOneWindows 467 1401 ∧
    (¬ inZeroWindows 700 981 ∧ ¬ inOneWindows 700 981 ∧ 1680 < 700 + 981) ∧
    (¬ inZeroWindows 700 980 ∧ ¬ inOneWindows 700 980 ∧ ¬ 1680 < 700 + 980) := by decide

theorem test_witness_StepRunsDecodedRequest :
    { State.reset with requests := [⟨.poll, []⟩] }.requests = ⟨.poll, []⟩ :: [] ∧ decode ⟨.poll, []⟩ = .ok .poll := by decide

theorem test_witness_PlacedTableWordRunsNext : decodeTableWord 8 2 = some .noBurst := by decide

theorem test_witness_IdleStepKeepsState : State.reset.requests = [] := by decide

theorem test_witness_EnvPushAppendsAtTail :
    (queued (List.replicate 127 5#32)).srcq.length < (queued []).cfg.srcFifoDepth ∧
    (tiny .dropNew).srcq.length = (tiny .dropNew).cfg.srcFifoDepth ∧ (tiny .dropNew).cfg.srcOverflow = .dropNew :=
  ⟨by change (List.replicate 127 _).length < 128; simp, rfl, rfl⟩

theorem test_witness_AcqWordActsOnHead :
    (queued [0xFFFFFFFF#32]).srcq = 0xFFFFFFFF#32 :: [] ∧ (queued [5#32]).srcq = 5#32 :: [] := by decide

theorem test_witness_TickIsStoredOrOverflows :
    (receiving (List.replicate 66 5#32)).acc.length < (receiving []).cfg.accDepth ∧
    (receiving []).cfg.accDepth ≤ (receiving (List.replicate 67 5#32)).acc.length := by decide

/-- Each clause: two values, three values, an overflowed burst, one value. -/
theorem test_witness_FinalizeStoresByLength :
    let quotients (s : State) (us : List Nat) : Prop := List.Forall₂ (fun (t : Word) u =>
      u * s.fSrc.val ≤ t.toNat * 2000000 ∧ t.toNat * 2000000 < (u + 1) * s.fSrc.val) s.acc us
    (quotients (receiving [1152#32, 288#32]) [9000, 2250] ∧ (receiving [1152#32, 288#32]).accOvf = false) ∧
    quotients (receiving [1152#32, 576#32, 72#32]) [9000, 4500, 562] ∧
    quotients { receiving [72#32] with accOvf := true } [562] ∧ quotients (receiving [72#32]) [562] := by
  refine ⟨⟨?_, rfl⟩, ?_, ?_, ?_⟩
  · exact .cons (by decide) (.cons (by decide) .nil)
  · exact .cons (by decide) (.cons (by decide) (.cons (by decide) .nil))
  · exact .cons (by decide) .nil
  · exact .cons (by decide) .nil

theorem test_witness_AccumulatorEmptiedOnlyByFinalizeOrReset :
    (receiving [5#32]).acc ≠ [] ∧ after (exec .finalize (receiving [5#32])) State.acc = some [] := by decide

/-- A tick that stores a burst and one that stores none. -/
theorem test_witness_AcquisitionNeverReadsPendingBursts :
    (∃ t, exec .acqTick (queued [5#32, 7#32, 9#32, 0xFFFFFFFF#32]) = .next t ∧ t.cmdReady = true) ∧
    (∃ t, exec .acqTick (queued [5#32]) = .next t ∧ t.cmdReady = false) := ⟨⟨_, rfl, rfl⟩, ⟨_, rfl, rfl⟩⟩

theorem test_witness_ToUsIsFloorOfQuotient :
    exec (.toUs 71#32) State.reset = .next { State.reset with out := .micros 554 } ∧
    exec (.toUs 72#32) State.reset = .next { State.reset with out := .micros 562 } ∧ State.reset.fSrc.val = 256000 :=
  ⟨rfl, rfl, rfl⟩

theorem test_witness_IsZeroAcceptsItsWindows :
    exec (.isZero 467 467) State.reset = .next { State.reset with out := .truth true } ∧
    exec (.isZero 699 699) State.reset = .next { State.reset with out := .truth true } := ⟨rfl, rfl⟩

theorem test_witness_IsOneAcceptsItsWindows :
    exec (.isOne 467 1401) State.reset = .next { State.reset with out := .truth true } ∧
    exec (.isOne 699 2099) State.reset = .next { State.reset with out := .truth true } := ⟨rfl, rfl⟩

theorem test_witness_InsufficientDataOnlyForShortBursts :
    ([9000] : List Nat).length ≤ 1 ∧ 2 ≤ ([9000, 4500] : List Nat).length ∧ State.reset.Reachable ∧
    Instr.poll.agent ≠ none ∧ ∃ t, exec .poll State.reset = .next t :=
  ⟨by decide, by decide, .built _ _ _ _ (by decide), by decide, _, rfl⟩

/-- Both sides of the equivalence, at the edges of the windows. -/
theorem test_witness_StartRejectedOnlyWhenBothFail :
    after (exec (.frameDecode [7500, 3750]) State.reset) State.out = some (.raised .invalidStartSequence) ∧
    after (exec (.frameDecode [7501, 3750]) State.reset) State.out = some (.frameOk 0#32) ∧
    after (exec (.frameDecode [7500, 3751]) State.reset) State.out = some (.frameOk 0#32) := by decide

/-- One pair of each kind, and 32 pairs. -/
theorem test_witness_FrameCodeHasOneBitPerPair :
    let good (b : List Nat) : Prop := 2 ≤ b.length ∧ inStartWindows (b.getD 0 0) (b.getD 1 0) ∧ pairCount b ≤ 32 ∧
      ∀ k, 1 ≤ k → k ≤ pairCount b →
        inZeroWindows (pairMark b k) (pairSpace b k) ∨ inOneWindows (pairMark b k) (pairSpace b k)
    good [9000, 4500, 467, 699, 699, 2099] ∧ good ([7501, 3751] ++ List.replicate 64 562) := by
  refine ⟨⟨by decide, by decide, by decide, fun k h1 h2 => ?_⟩, ⟨by decide, by decide, by decide, fun k h1 h2 => ?_⟩⟩
  · have h2' : k ≤ 2 := h2
    interval_cases k <;> decide
  · have h2' : k ≤ 32 := h2
    interval_cases k <;> decide

/-- The second of two pairs fails, on either side of the threshold. -/
theorem test_witness_FirstBadPairDecidesFailure :
    let bad (b : List Nat) : Prop := inStartWindows (b.getD 0 0) (b.getD 1 0) ∧ 2 ≤ pairCount b ∧
      (∀ m, 1 ≤ m → m < 2 →
        inZeroWindows (pairMark b m) (pairSpace b m) ∨ inOneWindows (pairMark b m) (pairSpace b m)) ∧
      ¬ inZeroWindows (pairMark b 2) (pairSpace b 2) ∧ ¬ inOneWindows (pairMark b 2) (pairSpace b 2)
    bad [9000, 4500, 562, 562, 700, 980] ∧ bad [9000, 4500, 562, 562, 700, 981] := by
  refine ⟨⟨by decide, by decide, fun m h1 h2 => ?_, by decide, by decide⟩,
    ⟨by decide, by decide, fun m h1 h2 => ?_, by decide, by decide⟩⟩
  · interval_cases m; decide
  · interval_cases m; decide

theorem test_witness_ThirtyThirdPairFaults :
    let b := [9000, 4500] ++ List.replicate 66 562
    inStartWindows (b.getD 0 0) (b.getD 1 0) ∧ 33 ≤ pairCount b ∧
    (∀ k, 1 ≤ k → k ≤ 32 →
      inZeroWindows (pairMark b k) (pairSpace b k) ∨ inOneWindows (pairMark b k) (pairSpace b k)) ∧
    ([9000, 4500] ++ List.replicate 65 562).length ≤ 67 := by
  refine ⟨by decide, by decide, fun k h1 h2 => ?_, by decide⟩
  interval_cases k <;> decide

theorem test_witness_UnpairedLastValueIsUnread :
    2 ≤ ([9000, 4500] : List Nat).length ∧ ([9000, 4500] : List Nat).length % 2 = 0 := by decide

/-- Each clause at the edges of its range. -/
theorem test_witness_SymbolsStepTheWalk :
    inStartWindows 11249 0 ∧ ¬ inStartWindows 7500 5625 ∧
    (2 ≤ (walking 2 0#32).frame.i ∧ (walking 65 0#32).frame.i ≤ 65) ∧
    inZeroWindows 467 699 ∧ ¬ inZeroWindows 466 562 ∧ inOneWindows 699 2099 ∧ ¬ inOneWindows 562 1400 ∧
    (walking 1 0#32).frame.i < 2 ∧ 65 < (walking 66 0#32).frame.i := by decide

theorem Tests.command_inv : (command [9000, 4500, 562, 1679] 5#32).Inv := by
  constructor <;> decide

/-- A burst that decodes. -/
theorem test_witness_PollOfCommandIsItsSymbolRun :
    (command [9000, 4500, 562, 1679] 5#32).Inv ∧ (command [9000, 4500, 562, 1679] 5#32).cmdReady = true ∧
    (command [9000, 4500, 562, 1679] 5#32).cfg.pollAtomic = true := ⟨command_inv, rfl, rfl⟩

/-- The edges of the windows, and both poll clauses. -/
theorem test_witness_RepeatBurstFollowsPolicy :
    inRepeatWindows 7501 1876 ∧ inRepeatWindows 11249 2812 ∧ ¬ inRepeatWindows 7500 2250 ∧ ¬ inRepeatWindows 9000 2813 ∧
    (repeated [9000, 2250] true 5#32).cfg.pollAtomic = true ∧ (repeated [9000, 2250] true 5#32).cmdReady = false ∧
    (repeated [9000, 2250] true 5#32).repReady = true ∧ (repeated [9000, 2250] true 5#32).repBuf = 9000 :: 2250 :: [] := by
  decide

theorem test_witness_SentinelWrittenOnlyUnderItsPolicy :
    (repeated [] false 5#32).repeatPolicy = false ∧ (repeated [] true 5#32).repeatPolicy = true := by decide

theorem test_witness_PollConsumesCommandBurst :
    (command [9000, 4500, 562, 1679] 5#32).cfg.pollAtomic = true ∧ (command [9000, 4500, 562, 1679] 5#32).cmdReady = true ∧
    exec (.frameDecode [9000, 4500, 562, 1679]) (command [9000, 4500, 562, 1679] 5#32) =
      .next { command [9000, 4500, 562, 1679] 5#32 with out := .frameOk 0x80000000#32 } ∧
    exec (.frameDecode [9000, 4500, 562, 1400]) (command [9000, 4500, 562, 1400] 5#32) =
      .next { command [9000, 4500, 562, 1400] 5#32 with out := .raised .invalidOneBit } := ⟨rfl, rfl, rfl, rfl⟩

theorem test_witness_PollAlwaysReplies :
    (command (List.replicate 67 562) 5#32).cfg.pollAtomic = true ∧
    (command (List.replicate 67 562) 5#32).cmdBuf.length ≤ 67 := by decide

theorem test_witness_PollWithoutBurstWritesNothing :
    State.reset.cfg.pollAtomic = true ∧ State.reset.cmdReady = false ∧ State.reset.repReady = false := by decide

theorem test_witness_SplitPollHalves :
    let idle : State := { State.reset with cfg := splitCfg }
    let pending : State := { command [9000, 4500, 562, 1679] 5#32 with cfg := splitCfg }
    (idle.cfg.pollAtomic = false ∧ idle.pollPhase = .idle ∧ idle.cmdReady = false) ∧
    (pending.cfg.pollAtomic = false ∧ pending.pollPhase = .idle ∧ pending.cmdReady = true ∧ pending.cmdBuf.length ≤ 67) ∧
    (between false false).cfg.pollAtomic = false ∧ (between false false).pollPhase = .repeatCheck ∧
    (between false false).repReady = false ∧ (between false true).repReady = true := by decide

/-- The clauses on the code: a burst that decodes and one that fails at `POLL_A`; both repeat windows at `POLL_B` with a command
burst pending. -/
theorem test_witness_SplitPollHalves_code :
    let good : State := { command [9000, 4500, 562, 1679] 5#32 with cfg := splitCfg }
    let bad : State := { command [9000, 4500, 562, 1400] 5#32 with cfg := splitCfg }
    let badRepeat : State := { between true true with repBuf := [9000, 2813] }
    (exec (.frameDecode good.cmdBuf) good = .next { good with out := .frameOk 0x80000000#32 } ∧
      good.pollPhase = .idle ∧ good.cmdReady = true) ∧
    (exec (.frameDecode bad.cmdBuf) bad = .next { bad with out := .raised .invalidOneBit } ∧ bad.cmdReady = true) ∧
    ((between true true).repBuf = 9000 :: 2250 :: [] ∧ inRepeatWindows 9000 2250 ∧ (between true true).repReady = true ∧
      (between true true).pollPhase = .repeatCheck) ∧
    badRepeat.repBuf = 9000 :: 2813 :: [] ∧ ¬ inRepeatWindows 9000 2813 :=
  ⟨⟨rfl, rfl, rfl⟩, ⟨rfl, rfl⟩, ⟨rfl, by decide, rfl, rfl⟩, rfl, by decide⟩

/-- R165, R162: the race of P6, an invalid repeat at `POLL_B` with a command burst pending. -/
theorem test_poll_b_invalid_repeat :
    after (exec .pollB { between true true with repBuf := [9000, 2813], commandCode := 7#32 })
      (fun t => (t.out, t.cmdReady, t.repBuf, t.commandCode)) =
      some (.reply false (.failed .invalidRepeatFrame), false, [], 7#32) := by decide

theorem test_witness_SplitPollEqualsWholePoll :
    let idle : State := { State.reset with cfg := splitCfg }
    let pending : State := { command [9000, 4500, 562, 1679] 5#32 with cfg := splitCfg }
    idle.cfg.pollAtomic = false ∧ idle.pollPhase = .idle ∧ idle.cmdReady = false ∧
    pending.cfg.pollAtomic = false ∧ pending.pollPhase = .idle ∧ pending.cmdReady = true := by decide

theorem test_witness_CrossKindClearLosesOnlyInSplitPoll :
    ((between true true).cfg.pollAtomic = false ∧ (between true true).pollPhase = .repeatCheck ∧
      (between true true).cmdReady = true ∧ (between true true).repReady = true ∧
      ∃ t, exec .pollB (between true true) = .next t) ∧
    ((command [9000, 4500, 562] 5#32).cfg.pollAtomic = true ∧ Instr.poll.agent = some .app ∧
      ∃ t, exec .poll (command [9000, 4500, 562] 5#32) = .next t ∧
        (command [9000, 4500, 562] 5#32).cmdReady = true ∧ t.cmdReady = false) :=
  ⟨⟨rfl, rfl, rfl, rfl, _, rfl⟩, ⟨rfl, rfl, _, rfl, rfl, rfl⟩⟩

/-- A stale command buffer: a step that keeps it and a step that replaces it. -/
theorem test_witness_CrossKindClearLosesOnlyInSplitPoll_stale :
    let s : State := { State.reset with cfg := splitCfg, cmdBuf := [9000, 4500, 562, 1679] }
    let q : State := { s with srcq := [1#32, 2#32, 3#32, 0xFFFFFFFF#32] }
    (Instr.pollA.agent ≠ none ∧ s.cmdReady = false ∧ ∃ t, exec .pollA s = .next t ∧ t.cmdReady = false) ∧
    (Instr.acqTick.agent ≠ none ∧ q.cmdReady = false ∧ ∃ t, exec .acqTick q = .next t ∧ t.cmdReady = true) :=
  ⟨⟨by decide, rfl, _, rfl, rfl⟩, ⟨by decide, rfl, _, rfl, rfl⟩⟩

theorem test_witness_NewCodeExactlyForStatusZeroOrOne :
    ∃ t, exec .poll State.reset = .next t ∧ t.out = .reply false .noBurst := ⟨_, rfl, rfl⟩

theorem test_witness_ResetInstallsEveryElement :
    let ok (n : Nat) : Bool := decide (34 ≤ n ∧ n ≤ 67)
    ok 34 = true ∧ ok 67 = true ∧ ({ Config.default with accDepth := 33 }).accDepth < 34 ∧
    67 < ({ Config.default with accDepth := 68 }).accDepth ∧ 1 ≤ Config.default.srcFifoDepth := by decide

theorem test_witness_ResetStateMeetsInvariant :
    ({ Config.default with accDepth := 34, srcFifoDepth := 1, pollAtomic := false } : Config).valid = true := by decide

theorem test_witness_StepKeepsInvariant :
    (command [9000, 4500, 562, 1679] 5#32).Inv ∧
    { command [9000, 4500, 562, 1679] 5#32 with requests := [⟨.poll, []⟩] }.Inv ∧
    ∃ t, step { command [9000, 4500, 562, 1679] 5#32 with requests := [⟨.poll, []⟩] } = .next t :=
  ⟨command_inv, by constructor <;> decide, _, rfl⟩

theorem test_witness_ReachableStatesMeetInvariant :
    ∃ t, exec (.envPush 5#32) State.reset = .next t ∧ t.Reachable :=
  ⟨_, rfl, .agentStep (.envPush 5#32) (by decide) (.built 0 false ⟨256000, by decide⟩ Config.default (by decide)) rfl⟩

theorem test_witness_AgentStepsNeverStop :
    (command [9000, 4500, 562, 1679] 5#32).Inv ∧ Instr.poll.agent ≠ none ∧
    (∀ pin policy fSrc cfg, Instr.poll = .reset pin policy fSrc cfg → 1 ≤ fSrc ∧ cfg.valid = true) :=
  ⟨command_inv, by decide, by intro _ _ _ _ h; cases h⟩

theorem test_witness_CommandCodeHasFewWriters :
    ∃ t, exec .poll (command [9000, 4500, 562, 1679] 5#32) = .next t ∧
      t.commandCode ≠ (command [9000, 4500, 562, 1679] 5#32).commandCode := ⟨_, rfl, by decide⟩

/-- Each of the three flags raised and cleared. -/
theorem test_witness_FlagsChangeOnlyAsTabled :
    after (exec .acqWord { receiving [1#32, 2#32, 3#32] with srcq := [0xFFFFFFFF#32] }) State.cmdReady = some true ∧
    after (exec .acqWord { receiving [1#32, 2#32] with srcq := [0xFFFFFFFF#32] }) State.repReady = some true ∧
    after (exec .acqWord { receiving (List.replicate 67 1#32) with srcq := [1#32] }) State.accOvf = some true ∧
    after (exec .poll (command [9000, 4500, 562] 5#32)) State.cmdReady = some false ∧
    after (exec .poll (repeated [9000, 2250] false 5#32)) State.repReady = some false ∧
    after (exec .acqWord { receiving [1#32] with srcq := [0xFFFFFFFF#32], accOvf := true }) State.accOvf = some false := by
  decide

theorem test_witness_ContextsKeepToTheirState :
    ((Instr.envPush 5#32).agent = some .env ∧ ∃ t, exec (.envPush 5#32) State.reset = .next t) ∧
    (Instr.acqWord.agent = some .acq ∧ ∃ t, exec .acqWord (queued [5#32]) = .next t) ∧
    (Instr.poll.agent = some .app ∧ ∃ t, exec .poll State.reset = .next t) :=
  ⟨⟨rfl, _, rfl⟩, ⟨rfl, _, rfl⟩, ⟨rfl, _, rfl⟩⟩

theorem test_witness_PollIgnoresReception :
    Instr.poll.agent = some .app ∧ ∃ t, exec .poll (command [9000, 4500, 562] 5#32) = .next t := ⟨rfl, _, rfl⟩

theorem test_witness_ParametersChangeOnlyByReset :
    ∃ t, exec (.reset 0 true 1 Config.default) State.reset = .next t ∧ t.repeatPolicy ≠ State.reset.repeatPolicy :=
  ⟨_, rfl, by decide⟩

theorem test_witness_DisabledStepChangesNothing :
    ((tiny .stall).srcq.length = (tiny .stall).cfg.srcFifoDepth ∧ (tiny .stall).cfg.srcOverflow = .stall) ∧
    State.reset.srcq = [] ∧ ((between true true).cfg.pollAtomic = false ∧ (between true true).pollPhase = .repeatCheck) ∧
    State.reset.cfg.pollAtomic = true ∧ State.reset.pollPhase = .idle := by decide

/-- A frame of 32 bits, the longest an accumulator of 67 admits. -/
theorem test_witness_WaitingFrameIsDecoded :
    let bits := List.replicate 32 true
    let s := queued (frameWords bits ++ [0xFFFFFFFF#32])
    s.Inv ∧ 1 ≤ bits.length ∧ 2 * bits.length + 2 ≤ s.cfg.accDepth ∧ s.fSrc.val = 256000 ∧ s.acc = [] ∧
    s.accOvf = false ∧ s.pollPhase = .idle ∧ s.srcq = frameWords bits ++ [0xFFFFFFFF#32] :=
  ⟨inv_of_idle _ (by decide) (by decide) rfl rfl rfl rfl rfl rfl rfl, by decide, by decide, rfl, rfl, rfl, rfl, rfl⟩

theorem test_witness_ThreeValueRepeatBecomesCodeZero :
    let s := receiving [1152#32, 288#32, 72#32]
    s.acc = [1152#32, 288#32, 72#32] ∧ s.accOvf = false ∧ s.cfg.pollAtomic = true ∧
    exec (.toUs 1152#32) s = .next { s with out := .micros 9000 } ∧ 7501 ≤ 9000 ∧ 9000 ≤ 11249 :=
  ⟨rfl, rfl, rfl, rfl, by decide, by decide⟩
end

section
/-! The invariant of R35: what each named update and each shared operation needs to keep it, then every instruction and every
run of the block's agents. -/

namespace Sys2Proof.Machine

variable {s : State}

/-! ### The named updates of State -/

theorem State.Inv.emit (h : s.Inv) (o : Output) : (s.emit o).Inv := { h with }

theorem State.Inv.setCode (h : s.Inv) (w : Word) : (s.setCode w).Inv := { h with }

theorem State.Inv.setFrame (h : s.Inv) (f : FrameWalk) : (s.setFrame f).Inv := { h with }

theorem State.Inv.setRequests (h : s.Inv) (rs : List Request) : (s.setRequests rs).Inv := { h with }

theorem State.Inv.setPhase (h : s.Inv) (p : PollPhase) (hp : s.cfg.pollAtomic = true → p = .idle) :
    (s.setPhase p).Inv := { h with phaseAtomic := hp }

theorem State.Inv.setSrcq (h : s.Inv) (q : List Word) (hq : q.length ≤ s.cfg.srcFifoDepth) : (s.setSrcq q).Inv :=
  { h with srcqBound := hq }

theorem State.Inv.pushWord (h : s.Inv) (w : Word) (hroom : s.srcq.length < s.cfg.srcFifoDepth) : (s.pushWord w).Inv :=
  { h with srcqBound := by simpa using hroom }

/-- R104: a value is appended only below the bound, where the overflow flag is still clear. -/
theorem State.Inv.appendAcc (h : s.Inv) (w : Word) (hroom : s.acc.length < s.cfg.accDepth) : (s.appendAcc w).Inv :=
  { h with
    accBound := by simpa using hroom
    ovfFull := fun hov => absurd (h.ovfFull hov) (Nat.ne_of_lt hroom) }

theorem State.Inv.markOverflow (h : s.Inv) (hfull : s.cfg.accDepth ≤ s.acc.length) : s.markOverflow.Inv :=
  { h with ovfFull := fun _ => Nat.le_antisymm h.accBound hfull }

theorem State.Inv.clearAcc (h : s.Inv) : s.clearAcc.Inv :=
  { h with accBound := Nat.zero_le _, ovfFull := nofun }

/-- R106: the lengths at which a command burst is stored. -/
theorem State.Inv.storeCommand (h : s.Inv) (us : List Nat) (hlong : 2 < us.length) (hfits : us.length ≤ s.cfg.accDepth)
    (hus : ∀ v ∈ us, v < 2 ^ 53) : (s.storeBurst .command us).Inv :=
  { h with cmdPending := fun _ => ⟨hlong, hfits⟩, cmdIdle := nofun, cmdMicros := hus }

/-- R105: the length at which a repeat burst is stored. -/
theorem State.Inv.storeRepeat (h : s.Inv) (us : List Nat) (htwo : us.length = 2) (hus : ∀ v ∈ us, v < 2 ^ 53) :
    (s.storeBurst .repeated us).Inv :=
  { h with repPending := fun _ => htwo, repIdle := nofun, repMicros := hus }

/-- R59: the flag and the buffer are cleared together. -/
theorem State.Inv.takeBurst (h : s.Inv) : ∀ kind, (s.takeBurst kind).Inv
  | .command => { h with cmdPending := nofun, cmdIdle := fun _ _ => rfl, cmdMicros := nofun }
  | .repeated => { h with repPending := nofun, repIdle := fun _ => rfl, repMicros := nofun }

/-- R162, R165: the cross-kind clear leaves the buffer, so with `POLL_ATOMIC = true` the flag must be clear already. -/
theorem State.Inv.clearCmdReady (h : s.Inv) (hclear : s.cfg.pollAtomic = true → s.cmdReady = false) :
    s.clearCmdReady.Inv :=
  { h with cmdPending := nofun, cmdIdle := fun hatomic _ => h.cmdIdle hatomic (hclear hatomic) }

/-- R210: construction meets the invariant. -/
theorem State.built_inv (pin : Nat) (policy : Bool) (fSrc : Freq) {cfg : Config} (hcfg : cfg.valid = true) :
    (State.built pin policy fSrc cfg).Inv where
  cfgValid := hcfg
  srcqBound := Nat.zero_le _
  accBound := Nat.zero_le _
  ovfFull := nofun
  cmdPending := nofun
  cmdIdle := fun _ _ => rfl
  repPending := nofun
  repIdle := fun _ => rfl
  cmdMicros := nofun
  repMicros := nofun
  phaseAtomic := fun _ => rfl

/-! ### Acquisition -/

theorem convertBurst_length (s : State) : (convertBurst s).length = s.acc.length := List.length_map _

/-- R71, R112: every converted value fits in `US_W` bits. -/
theorem convertBurst_micros (s : State) : ∀ v ∈ convertBurst s, v < 2 ^ 53 :=
  List.forall_mem_map.2 fun w _ => toMicros_lt s.fSrc w

theorem State.Inv.appendTick (h : s.Inv) (w : Word) : (appendTick w s).Inv := by
  rcases appendTick_cases w s with ⟨hroom, heq⟩ | ⟨hfull, heq⟩ <;> rw [heq]
  · exact h.appendAcc w hroom
  · exact h.markOverflow hfull

theorem State.Inv.finalizeBurst (h : s.Inv) : (finalizeBurst s).Inv := by
  have hlen := convertBurst_length s
  have hus := convertBurst_micros s
  rcases finalizeBurst_cases s with ⟨_, htwo, heq⟩ | ⟨_, hlong, heq⟩ | ⟨_, heq⟩ <;> rw [heq]
  · exact (h.storeRepeat _ (hlen.trans htwo) hus).clearAcc
  · exact (h.storeCommand _ (hlen ▸ hlong) (hlen ▸ h.accBound) hus).clearAcc
  · exact h.clearAcc

theorem State.Inv.acquireWord (h : s.Inv) (w : Word) : (acquireWord w s).Inv := by
  rcases acquireWord_cases w s with ⟨_, heq⟩ | ⟨_, heq⟩ <;> rw [heq]
  · exact h.finalizeBurst
  · exact h.appendTick w

/-- R103: the head of the queue is removed and acquired. -/
theorem State.Inv.acquireHead (h : s.Inv) {w : Word} {rest : List Word} (hq : s.srcq = w :: rest) :
    (Machine.acquireWord w (s.setSrcq rest)).Inv := by
  have hbound := h.srcqBound
  rw [hq, List.length_cons] at hbound
  exact (h.setSrcq rest (Nat.le_of_succ_le hbound)).acquireWord w

theorem State.Inv.drainWords (h : s.Inv) : (drainWords s.srcq s).Inv :=
  drainWords_induction State.Inv (fun _ _ _ hq hs => hs.acquireHead hq) (fun w s => (acquireWord_frame w s).srcq)
    s.srcq s rfl h

/-! ### The outcomes of the instructions -/

/-- The next state, when the outcome is one, meets the invariant. -/
def NextInv : Result → Prop
  | .next t => t.Inv
  | .fault _ => True
  | .refused _ => True

theorem NextInv.inv {r : Result} {t : State} (h : NextInv r) (hr : r = .next t) : t.Inv := by
  subst hr
  exact h

theorem State.Inv.applyRepeatPolicy (h : s.Inv) : (applyRepeatPolicy s).Inv := by
  rw [applyRepeatPolicy_eq]
  exact h.setCode _

theorem keepPair_nextInv (h : s.Inv) (r : FrameResult) : NextInv (keepPair r s) := by
  rcases keepPair_cases r s with ⟨_, _, heq⟩ | ⟨_, _, heq⟩ | ⟨_, heq⟩ <;> rw [heq]
  · exact (h.setFrame _).emit _
  · exact h.emit _
  · trivial

theorem commandPath_nextInv (h : s.Inv) : NextInv (commandPath s) := by
  have htake := h.takeBurst .command
  rcases commandPath_cases s with ⟨code, _, heq⟩ | ⟨_, _, heq⟩ | ⟨_, heq⟩ <;> rw [heq]
  · exact (htake.setCode code).emit _
  · exact htake.emit _
  · trivial

theorem repeatPath_nextInv (h : s.Inv) (hclear : s.cfg.pollAtomic = true → s.cmdReady = false) :
    NextInv (repeatPath s) := by
  have htaken : (s.takeBurst .repeated).clearCmdReady.Inv := (h.takeBurst .repeated).clearCmdReady hclear
  rcases repeatPath_cases s with ⟨_, heq⟩ | ⟨_, _, heq⟩ <;> rw [heq]
  · exact htaken.applyRepeatPolicy.emit _
  · exact htaken.emit _

theorem repeatOrIdle_nextInv (h : s.Inv) (hclear : s.cfg.pollAtomic = true → s.cmdReady = false) :
    NextInv (repeatOrIdle s) := by
  rcases repeatOrIdle_cases s with ⟨_, heq⟩ | ⟨_, heq⟩ <;> rw [heq]
  · exact repeatPath_nextInv h hclear
  · exact h.emit _

theorem pollWhole_nextInv (h : s.Inv) : NextInv (pollWhole s) := by
  rcases pollWhole_cases s with ⟨_, heq⟩ | ⟨hclear, heq⟩ <;> rw [heq]
  · exact commandPath_nextInv h
  · exact repeatOrIdle_nextInv h fun _ => hclear

theorem execPoll_nextInv (h : s.Inv) : NextInv (execPoll s) := by
  unfold execPoll
  split
  · exact pollWhole_nextInv h
  · exact h.emit _

theorem execPollA_nextInv (h : s.Inv) : NextInv (execPollA s) := by
  unfold execPollA
  split
  next hon =>
    split
    · exact commandPath_nextInv h
    · exact (h.setPhase _ (by simp [hon.1])).emit _
  next => exact h.emit _

theorem execPollB_nextInv (h : s.Inv) : NextInv (execPollB s) := by
  unfold execPollB
  split
  next hon => exact repeatOrIdle_nextInv (h.setPhase .idle fun _ => rfl) (by simp [hon.1])
  next => exact h.emit _

theorem execEnvPush_nextInv (h : s.Inv) (w : Word) : NextInv (execEnvPush w s) := by
  unfold execEnvPush
  split
  next hroom => exact (h.pushWord w hroom).emit _
  next =>
    split
    · exact h.emit _
    · exact h.emit _

theorem execAcqWord_nextInv (h : s.Inv) : NextInv (execAcqWord s) := by
  unfold execAcqWord
  split
  next => exact h.emit _
  next w rest hq => exact (h.acquireHead hq).emit _

theorem execStart_nextInv (h : s.Inv) (p1 p2 : Nat) : NextInv (execStart p1 p2 s) := by
  unfold execStart
  split
  · exact (h.setFrame _).emit _
  · exact h.emit _

theorem execFrameDecode_nextInv (h : s.Inv) (b : List Nat) : NextInv (execFrameDecode b s) := by
  unfold execFrameDecode
  split
  · exact h.emit _
  · exact h.emit _
  · trivial

theorem execRepeatPair_nextInv (h : s.Inv) (p1 p2 : Nat) : NextInv (execRepeatPair p1 p2 s) := by
  unfold execRepeatPair
  split
  · exact h.applyRepeatPolicy.emit _
  · exact h.emit _

theorem execRepeatHandle_nextInv (h : s.Inv) (b : List Nat) : NextInv (execRepeatHandle b s) := by
  unfold execRepeatHandle
  split
  · exact h.applyRepeatPolicy.emit _
  · exact h.emit _

theorem execReset_nextInv (pin : Nat) (policy : Bool) (fSrc : Nat) (cfg : Config) (s : State) :
    NextInv (execReset pin policy fSrc cfg s) := by
  unfold execReset
  split
  · split
    next hcfg => exact (State.built_inv pin policy _ hcfg).setRequests _
    next => trivial
  · trivial

/-- R35: every instruction keeps the invariant, those no agent takes alone included. -/
theorem exec_nextInv (h : s.Inv) (i : Instr) : NextInv (exec i s) := by
  cases i with
  | timeout => exact h.finalizeBurst.emit _
  | tick t => exact (h.appendTick t).emit _
  | start p1 p2 => exact execStart_nextInv h p1 p2
  | zero p1 p2 => exact keepPair_nextInv h _
  | one p1 p2 => exact keepPair_nextInv h _
  | repeatPair p1 p2 => exact execRepeatPair_nextInv h p1 p2
  | envPush w => exact execEnvPush_nextInv h w
  | acqWord => exact execAcqWord_nextInv h
  | append w => exact (h.appendTick w).emit _
  | finalize => exact h.finalizeBurst.emit _
  | acqTick => exact h.drainWords.emit _
  | frameDecode b => exact execFrameDecode_nextInv h b
  | repeatHandle b => exact execRepeatHandle_nextInv h b
  | poll => exact execPoll_nextInv h
  | pollA => exact execPollA_nextInv h
  | pollB => exact execPollB_nextInv h
  | take kind => exact (h.takeBurst kind).emit _
  | reset pin policy fSrc cfg => exact execReset_nextInv pin policy fSrc cfg s
  | okCommand => exact (h.setCode _).emit _
  | repeatSentinel => exact h.applyRepeatPolicy.emit _
  | toUs | matchTest | isZero | isOne | readCode | okRepeat | noBurst | insufficientData | invalidStartSequence
  | invalidZeroBit | invalidOneBit | invalidRepeatFrame => exact h.emit _

/-- Settles O44, by induction on the run: construction meets the invariant and every step of an agent keeps it. -/
theorem reachableStatesMeetInvariant : Obligations.ReachableStatesMeetInvariant := by
  intro s hs
  induction hs with
  | built pin policy fSrc cfg hcfg => exact State.built_inv pin policy fSrc hcfg
  | agentStep i _ _ hexec ih => exact (exec_nextInv ih i).inv hexec

end Sys2Proof.Machine
end

section
/-! The conversion `to_us` (R71) as a step of the machine, and the facts about it that the floor inequalities do not say. -/

namespace Sys2Proof.Machine

theorem toMicros_mono (f : Freq) {t₁ t₂ : Word} (h : t₁.toNat ≤ t₂.toNat) : toMicros f t₁ ≤ toMicros f t₂ :=
  Nat.div_le_div_right (Nat.mul_le_mul_right _ h)

theorem toMicros_zero (f : Freq) : toMicros f 0#32 = 0 := by
  simp [toMicros]

/-- R71: at the document's frequency a tick is 125 / 16 microseconds. -/
theorem toMicros_of_val_eq_256000 {f : Freq} (hf : f.val = 256000) (t : Word) :
    toMicros f t = t.toNat * 125 / 16 := by
  have h := toMicros_floor f t
  rw [hf] at h
  omega

/-- The one output `TO_US` can have; nothing else of the state moves. -/
theorem exec_toUs_eq_next_micros_iff (t : Word) (s : State) (u : Nat) :
    exec (.toUs t) s = .next { s with out := .micros u } ↔ toMicros s.fSrc t = u := by
  constructor
  · intro h
    have hstate : s.emit (.micros (toMicros s.fSrc t)) = s.emit (.micros u) := Host.Outcome.next.inj h
    exact Output.micros.inj (congrArg State.out hstate)
  · rintro rfl
    rfl

/-- Settles O16: `TO_US` emits `toMicros`, the floor of the exact quotient (`toMicros_floor`), so each clause is a fact
about that quotient. -/
theorem toUsIsFloorOfQuotient : Obligations.ToUsIsFloorOfQuotient := by
  simp only [Obligations.ToUsIsFloorOfQuotient, exec_toUs_eq_next_micros_iff]
  refine ⟨fun t s => ?floor, fun t₁ t₂ s u₁ u₂ hle h₁ h₂ => ?mono, fun s => toMicros_zero s.fSrc, fun s hf => ?examples⟩
  case floor =>
    obtain ⟨hlow, hhigh⟩ := toMicros_floor s.fSrc t
    exact ⟨_, rfl, hlow, hhigh, toMicros_lt s.fSrc t⟩
  case mono =>
    subst h₁ h₂
    exact toMicros_mono s.fSrc hle
  case examples =>
    exact ⟨toMicros_of_val_eq_256000 hf 1152#32, toMicros_of_val_eq_256000 hf 576#32⟩

end Sys2Proof.Machine
end

section
/-! What a source word does to the accumulator: a tick count joins the burst (R104), the end of a burst stores or drops it
(R105 to R108, R112). -/

namespace Sys2Proof.Machine

/-- R104: the instructions that put a tick count into the accumulator. -/
theorem exec_tickCount {w : Word} {i : Instr} (hi : i ∈ [Instr.append w, Instr.tick w]) (s : State) :
    exec i s = .next ((appendTick w s).emit .silent) := by
  rcases List.mem_pair.1 hi with rfl | rfl <;> rfl

/-- R105 to R108: the instructions that end a burst. -/
theorem exec_burstEnd {i : Instr} (hi : i ∈ [Instr.finalize, Instr.timeout]) (s : State) :
    exec i s = .next ((finalizeBurst s).emit .silent) := by
  rcases List.mem_pair.1 hi with rfl | rfl <;> rfl

theorem appendTick_of_lt (w : Word) {s : State} (hroom : s.acc.length < s.cfg.accDepth) :
    appendTick w s = s.appendAcc w := by
  simpa [hroom, hroom.not_ge] using appendTick_cases w s

theorem appendTick_of_le (w : Word) {s : State} (hfull : s.cfg.accDepth ≤ s.acc.length) :
    appendTick w s = s.markOverflow := by
  simpa [hfull, hfull.not_gt] using appendTick_cases w s

theorem finalizeBurst_of_length_eq_two {s : State} (hov : s.accOvf = false) (htwo : s.acc.length = 2) :
    finalizeBurst s = (s.storeBurst .repeated (convertBurst s)).clearAcc := by
  simpa [hov, htwo] using finalizeBurst_cases s

theorem finalizeBurst_of_two_lt_length {s : State} (hov : s.accOvf = false) (hlong : 2 < s.acc.length) :
    finalizeBurst s = (s.storeBurst .command (convertBurst s)).clearAcc := by
  simpa [hov, hlong, hlong.ne', hlong.not_gt] using finalizeBurst_cases s

/-- R107, R108: an overflowed burst and one too short to be a repeat are dropped. -/
theorem finalizeBurst_of_dropped {s : State} (hdrop : s.accOvf = true ∨ s.acc.length < 2) :
    finalizeBurst s = s.clearAcc := by
  rcases finalizeBurst_cases s with ⟨hov, htwo, _⟩ | ⟨hov, hlong, _⟩ | ⟨_, heq⟩
  · simp [hov, htwo] at hdrop
  · simp [hov, hlong.not_gt] at hdrop
  · exact heq

/-- R71: the floor inequalities have one solution, the converted value. -/
theorem toMicros_eq_of_floor {f : Freq} {t : Word} {u : Nat}
    (hfloor : u * f.val ≤ t.toNat * 2000000 ∧ t.toNat * 2000000 < (u + 1) * f.val) : toMicros f t = u :=
  Nat.div_eq_of_lt_le hfloor.1 hfloor.2

/-- R112: a list that holds the floor of each accumulated count's quotient is the converted burst. -/
theorem convertBurst_eq_of_floors {s : State} {us : List Nat}
    (hfloors : List.Forall₂ (fun (t : Word) u =>
      u * s.fSrc.val ≤ t.toNat * 2000000 ∧ t.toNat * 2000000 < (u + 1) * s.fSrc.val) s.acc us) :
    convertBurst s = us := by
  have hvalues : List.Forall₂ (fun t u => toMicros s.fSrc t = u) s.acc us :=
    hfloors.imp fun _ _ => toMicros_eq_of_floor
  rwa [← List.forall₂_map_left_iff (R := Eq), List.forall₂_eq_eq_eq] at hvalues

/-- Settles O12: the floors are `convertBurst`, so its length, the accumulator's, chooses how `finalizeBurst` ends. -/
theorem finalizeStoresByLength : Obligations.FinalizeStoresByLength := by
  intro s us hfloors i hi
  obtain rfl := convertBurst_eq_of_floors hfloors
  rw [exec_burstEnd hi, convertBurst_length]
  refine ⟨fun hov htwo => ?_, fun hov hlong => ?_, fun hdrop => ?_⟩
  · rw [finalizeBurst_of_length_eq_two hov htwo]
    rfl
  · rw [finalizeBurst_of_two_lt_length hov hlong]
    rfl
  · rw [finalizeBurst_of_dropped hdrop]
    rfl

/-- Settles O11: `appendTick` stores the count below `ACC_DEPTH` and marks the overflow at it. -/
theorem tickIsStoredOrOverflows : Obligations.TickIsStoredOrOverflows := by
  intro w s i hi
  rw [exec_tickCount hi]
  refine ⟨fun hroom => ?_, fun hfull => ?_⟩
  · rw [appendTick_of_lt w hroom]
    rfl
  · rw [appendTick_of_le w hfull]
    rfl

end Sys2Proof.Machine
end

section
/-! The bit classifier (R120 to R123) as steps of the machine: a test answers on the port and moves nothing else, so each
statement is one about the pure test. -/

namespace Sys2Proof.Machine

/-- A step that only answers a truth value is told by that value. -/
theorem next_emit_truth_eq_iff (s : State) (b c : Bool) :
    (.next (s.emit (.truth b)) : Result) = .next { s with out := .truth c } ↔ b = c := by
  constructor
  · intro h
    have hstate : s.emit (.truth b) = s.emit (.truth c) := Host.Outcome.next.inj h
    exact Output.truth.inj (congrArg State.out hstate)
  · rintro rfl
    rfl

theorem exec_matchTest_eq_next_truth_iff (v e : Nat) (s : State) (b : Bool) :
    exec (.matchTest v e) s = .next { s with out := .truth b } ↔ matchesExpected v e = b :=
  next_emit_truth_eq_iff s (matchesExpected v e) b

theorem exec_isZero_eq_next_truth_iff (p1 p2 : Nat) (s : State) (b : Bool) :
    exec (.isZero p1 p2) s = .next { s with out := .truth b } ↔ isZeroPair p1 p2 = b :=
  next_emit_truth_eq_iff s (isZeroPair p1 p2) b

theorem exec_isOne_eq_next_truth_iff (p1 p2 : Nat) (s : State) (b : Bool) :
    exec (.isOne p1 p2) s = .next { s with out := .truth b } ↔ isOnePair p1 p2 = b :=
  next_emit_truth_eq_iff s (isOnePair p1 p2) b

/-- R11: `absDiff` is the distance of the integers, although it never subtracts below zero. -/
theorem absDiff_cast (a b : Nat) : (absDiff a b : Int) = |(a : Int) - (b : Int)| := by
  unfold absDiff
  by_cases h : b ≤ a
  · rw [if_pos h, Nat.cast_sub h, abs_of_nonneg (by omega)]
  · rw [if_neg h, Nat.cast_sub (by omega), abs_of_neg (by omega), neg_sub]

theorem matchesExpected_iff_int (v e : Nat) :
    matchesExpected v e = true ↔ 5 * |(v : Int) - (e : Int)| < (v : Int) := by
  rw [matchesExpected_iff, ← absDiff_cast]
  omega

/-- R123: a match accepts the closed interval whose edges are the least value above `5 * e / 6` and the greatest one
below `5 * e / 4`. -/
theorem matchesExpected_iff_of_edges {e lo hi : Nat} (hlo : 6 * (lo - 1) ≤ 5 * e ∧ 5 * e < 6 * lo)
    (hhi : 4 * hi < 5 * e ∧ 5 * e ≤ 4 * (hi + 1)) (v : Nat) :
    matchesExpected v e = true ↔ lo ≤ v ∧ v ≤ hi := by
  rw [matchesExpected_interval]
  omega

/-- Settles O17: `MATCH` answers `matchesExpected`, and `absDiff` is the absolute value of the integer difference. -/
theorem matchToleranceScalesWithObserved : Obligations.MatchToleranceScalesWithObserved := by
  intro v e s
  rw [exec_matchTest_eq_next_truth_iff, Bool.eq_iff_iff, decide_eq_true_iff]
  exact matchesExpected_iff_int v e

/-- Settles O18: the five rows of R123 meet the edge conditions of `matchesExpected_iff_of_edges`. -/
theorem matchAcceptsClosedIntervals : Obligations.MatchAcceptsClosedIntervals := by
  intro v s w hw
  rw [exec_matchTest_eq_next_truth_iff, Bool.eq_iff_iff, decide_eq_true_iff]
  fin_cases hw <;> exact matchesExpected_iff_of_edges (by decide) (by decide) v

theorem isZeroPair_eq_decide (p1 p2 : Nat) : isZeroPair p1 p2 = decide (inZeroWindows p1 p2) := by
  rw [Bool.eq_iff_iff, decide_eq_true_iff]
  exact isZeroPair_iff p1 p2

theorem isOnePair_eq_decide (p1 p2 : Nat) : isOnePair p1 p2 = decide (inOneWindows p1 p2) := by
  rw [Bool.eq_iff_iff, decide_eq_true_iff]
  exact isOnePair_iff p1 p2

/-- R121, R122: the windows of the second value do not meet, so no pair is both a `0` and a `1`. -/
theorem isZeroPair_eq_false_of_isOnePair {p1 p2 : Nat} (hone : isOnePair p1 p2 = true) : isZeroPair p1 p2 = false := by
  rw [isOnePair_iff] at hone
  rw [Bool.eq_false_iff, ne_eq, isZeroPair_iff]
  omega

/-- Settles O19: the sum's bounds are the sums of the windows' edges. -/
theorem isZeroAcceptsItsWindows : Obligations.IsZeroAcceptsItsWindows := by
  intro p1 p2 s
  simp only [exec_isZero_eq_next_truth_iff]
  refine ⟨isZeroPair_eq_decide p1 p2, fun hzero => ?_⟩
  rw [isZeroPair_iff] at hzero
  omega

/-- Settles O20: the sum's bounds are the sums of the windows' edges, and a `1` is no `0` by its second value. -/
theorem isOneAcceptsItsWindows : Obligations.IsOneAcceptsItsWindows := by
  intro p1 p2 s
  simp only [exec_isOne_eq_next_truth_iff, exec_isZero_eq_next_truth_iff]
  refine ⟨isOnePair_eq_decide p1 p2, fun hone => ?_⟩
  have hwindows := (isOnePair_iff p1 p2).1 hone
  exact ⟨by omega, by omega, isZeroPair_eq_false_of_isOnePair hone⟩

end Sys2Proof.Machine
end

section
/-! The Frame Decoder as a step of the machine: `FRAME_DECODE` answers what `decodeFrame` says, and the walk goes over the data
pairs of the burst in the spec's own indices (R130 to R137). -/

namespace Sys2Proof.Machine

/-- A step that only answers is told by its answer. -/
theorem next_emit_eq_iff (s : State) (o o' : Output) :
    (.next (s.emit o) : Result) = .next { s with out := o' } ↔ o = o' := by
  constructor
  · intro h
    have hstate : s.emit o = s.emit o' := Host.Outcome.next.inj h
    exact congrArg State.out hstate
  · rintro rfl
    rfl

/-- R130: the three ways a whole frame ends. -/
theorem exec_frameDecode_cases (b : List Nat) (s : State) :
    (∃ code, decodeFrame b = .ok code ∧ exec (.frameDecode b) s = .next (s.emit (.frameOk code))) ∨
      (∃ f, decodeFrame b = .raised f ∧ exec (.frameDecode b) s = .next (s.emit (.raised f))) ∨
      (decodeFrame b = .bitIndexOutsideCode ∧ exec (.frameDecode b) s = .fault .bitIndexOutsideCode) := by
  simp only [exec, execFrameDecode]
  cases decodeFrame b with
  | ok code => exact .inl ⟨code, rfl, rfl⟩
  | raised f => exact .inr (.inl ⟨f, rfl, rfl⟩)
  | bitIndexOutsideCode => exact .inr (.inr ⟨rfl, rfl⟩)

theorem exec_frameDecode_eq_next_raised_iff (b : List Nat) (s : State) (f : Failure) :
    exec (.frameDecode b) s = .next { s with out := .raised f } ↔ decodeFrame b = .raised f := by
  rcases exec_frameDecode_cases b s with ⟨code, hdec, hexec⟩ | ⟨g, hdec, hexec⟩ | ⟨hdec, hexec⟩ <;> rw [hdec, hexec]
  · exact (next_emit_eq_iff s _ _).trans (by simp)
  · exact (next_emit_eq_iff s _ _).trans (by simp)
  · simp

theorem exec_frameDecode_eq_fault_iff (b : List Nat) (s : State) :
    exec (.frameDecode b) s = .fault .bitIndexOutsideCode ↔ decodeFrame b = .bitIndexOutsideCode := by
  rcases exec_frameDecode_cases b s with ⟨code, hdec, hexec⟩ | ⟨g, hdec, hexec⟩ | ⟨hdec, hexec⟩ <;> simp [hdec, hexec]

/-! ### One pair of the walk -/

/-- R134, R135: a pair in the windows of a `0` or a `1` is taken into the code. -/
theorem decodePair_of_valid {k p1 p2 : Nat} (hk : 1 ≤ k) (hk' : k ≤ 32)
    (hvalid : inZeroWindows p1 p2 ∨ inOneWindows p1 p2) (code : Word) : ∃ code', decodePair k code p1 p2 = .ok code' := by
  have hin : pairInCode k = true := (pairInCode_iff k).2 ⟨hk, hk'⟩
  have hpair : isZeroPair p1 p2 = true ∨ isOnePair p1 p2 = true :=
    hvalid.imp (isZeroPair_iff p1 p2).2 (isOnePair_iff p1 p2).2
  rcases decodePair_cases k code p1 p2 with
    ⟨hout, _⟩ | ⟨_, _, hok⟩ | ⟨_, _, hok⟩ | ⟨_, _, hone, hzero, _⟩ | ⟨_, _, hone, hzero, _⟩
  · simp [hin] at hout
  · exact ⟨_, hok⟩
  · exact ⟨_, hok⟩
  · simp [hone, hzero] at hpair
  · simp [hone, hzero] at hpair

/-- R137: a pair above the 32nd has no bit in the code, whatever its values. -/
theorem decodePair_of_outsideCode {k : Nat} (hk : 32 < k) (code : Word) (p1 p2 : Nat) :
    decodePair k code p1 p2 = .bitIndexOutsideCode := by
  have hout : pairInCode k = false := by simp [pairInCode, hk.not_ge]
  simpa [hout] using decodePair_cases k code p1 p2

/-- R183, R184: the only failures a data pair can raise. -/
theorem decodePair_raised {k p1 p2 : Nat} {code : Word} {f : Failure} (h : decodePair k code p1 p2 = .raised f) :
    f = .invalidZeroBit ∨ f = .invalidOneBit := by
  rcases decodePair_cases k code p1 p2 with ⟨_, h'⟩ | ⟨_, _, h'⟩ | ⟨_, _, h'⟩ | ⟨_, _, _, _, h'⟩ | ⟨_, _, _, _, h'⟩ <;>
    rw [h'] at h <;> cases h
  · exact .inr rfl
  · exact .inl rfl

/-! ### The walk -/

theorem walkPairs_cons_of_ok {k p1 p2 : Nat} {code code' : Word} (h : decodePair k code p1 p2 = .ok code')
    (rest : List Nat) : walkPairs (p1 :: p2 :: rest) k code = walkPairs rest (k + 1) code' := by
  simp [walkPairs, h]

theorem walkPairs_cons_of_outsideCode {k : Nat} (hk : 32 < k) (code : Word) (p1 p2 : Nat) (rest : List Nat) :
    walkPairs (p1 :: p2 :: rest) k code = .bitIndexOutsideCode := by
  simp [walkPairs, decodePair_of_outsideCode hk]

/-- R183, R184: the walk raises what one of its pairs raises, so never a failure of the start. -/
theorem walkPairs_raised {f : Failure} (ps : List Nat) (k : Nat) (code : Word) (h : walkPairs ps k code = .raised f) :
    f = .invalidZeroBit ∨ f = .invalidOneBit := by
  induction ps, k, code using walkPairs.induct with
  | case1 p1 p2 rest k code code' hpair ih =>
    rw [walkPairs_cons_of_ok hpair] at h
    exact ih h
  | case2 p1 p2 rest k code g hpair =>
    simp only [walkPairs, hpair, FrameResult.raised.injEq] at h
    exact decodePair_raised (h ▸ hpair)
  | case3 p1 p2 rest k code hpair => simp [walkPairs, hpair] at h
  | case4 k code _ => simp [walkPairs] at h
  | case5 k code => simp [walkPairs] at h

/-- R133: where the walk stands at data pair `k`, that pair is next and the walk of pair `k + 1` follows. -/
theorem drop_eq_pair_cons {b : List Nat} {k : Nat} (hk : 1 ≤ k) (hk' : k ≤ pairCount b) :
    b.drop (2 * k) = pairMark b k :: pairSpace b k :: b.drop (2 * (k + 1)) := by
  unfold pairCount at hk'
  have hmark : 2 * k < b.length := by omega
  have hspace : 2 * k + 1 < b.length := by omega
  rw [pairMark, pairSpace, List.getD_eq_getElem _ _ hmark, List.getD_eq_getElem _ _ hspace,
    List.drop_eq_getElem_cons hmark, List.drop_eq_getElem_cons hspace]
  rfl

/-- R133: over `n` valid pairs within the code the walk gets to pair `n + 1`, with some code assembled. -/
theorem walkPairs_passes_validPairs {b : List Nat} (code : Word) {n : Nat} (hn : n ≤ pairCount b) (hn' : n ≤ 32)
    (hvalid : ∀ k, 1 ≤ k → k ≤ n →
      inZeroWindows (pairMark b k) (pairSpace b k) ∨ inOneWindows (pairMark b k) (pairSpace b k)) :
    ∃ code', walkPairs (b.drop 2) 1 code = walkPairs (b.drop (2 * (n + 1))) (n + 1) code' := by
  induction n with
  | zero => exact ⟨code, rfl⟩
  | succ n ih =>
    obtain ⟨codeN, hwalk⟩ := ih (by omega) (by omega) fun k hk hkn => hvalid k hk (by omega)
    obtain ⟨code', hpair⟩ := decodePair_of_valid (by omega) hn' (hvalid (n + 1) (by omega) le_rfl) codeN
    refine ⟨code', ?_⟩
    rw [hwalk, drop_eq_pair_cons (by omega) hn, walkPairs_cons_of_ok hpair]

/-! ### The whole frame -/

/-- R132, R133: an accepted start leads to the walk from the first data pair on. -/
theorem decodeFrame_of_startAccepted {b : List Nat} (hlen : 2 ≤ b.length)
    (hstart : inStartWindows (b.getD 0 0) (b.getD 1 0)) : decodeFrame b = walkPairs (b.drop 2) 1 0#32 := by
  match b with
  | v0 :: v1 :: rest =>
    have hacc : startAccepted v0 v1 = true := (startAccepted_iff v0 v1).2 hstart
    simp [decodeFrame, hacc]

/-- R132, R182: only the start check raises `InvalidStartSequence`. -/
theorem decodeFrame_eq_invalidStartSequence_iff (v0 v1 : Nat) (rest : List Nat) :
    decodeFrame (v0 :: v1 :: rest) = .raised .invalidStartSequence ↔ ¬ inStartWindows v0 v1 := by
  have hacc := startAccepted_iff v0 v1
  by_cases hstart : inStartWindows v0 v1
  · have hwalk : walkPairs rest 1 0#32 ≠ .raised .invalidStartSequence := fun h => by
      simpa using walkPairs_raised rest 1 0#32 h
    simp [decodeFrame, hacc.2 hstart, hwalk, hstart]
  · simp [decodeFrame, mt hacc.1 hstart, hstart]

/-- R137: after 32 valid data pairs a 33rd is outside the code. -/
theorem decodeFrame_of_thirtyThirdPair {b : List Nat} (hstart : inStartWindows (b.getD 0 0) (b.getD 1 0))
    (hcount : 33 ≤ pairCount b)
    (hvalid : ∀ k, 1 ≤ k → k ≤ 32 →
      inZeroWindows (pairMark b k) (pairSpace b k) ∨ inOneWindows (pairMark b k) (pairSpace b k)) :
    decodeFrame b = .bitIndexOutsideCode := by
  have hlen : 2 ≤ b.length := by unfold pairCount at hcount; omega
  obtain ⟨code, hwalk⟩ := walkPairs_passes_validPairs 0#32 (by omega) le_rfl hvalid
  rw [decodeFrame_of_startAccepted hlen hstart, hwalk, drop_eq_pair_cons (by omega) hcount,
    walkPairs_cons_of_outsideCode (by omega)]

/-- Settles O22: `FRAME_DECODE` raises what `decodeFrame` does, and no pair of the walk raises the start's failure. -/
theorem startRejectedOnlyWhenBothFail : Obligations.StartRejectedOnlyWhenBothFail := by
  intro v0 v1 rest s
  rw [exec_frameDecode_eq_next_raised_iff, decodeFrame_eq_invalidStartSequence_iff, not_or]

/-- Settles O25: 32 valid pairs lead the walk to the 33rd, which has no bit; 67 values hold no 33rd pair. -/
theorem thirtyThirdPairFaults : Obligations.ThirtyThirdPairFaults := by
  refine ⟨fun b s hstart hcount hvalid => ?fault, fun b s hlen => ?next⟩
  case fault =>
    rw [exec_frameDecode_eq_fault_iff]
    exact decodeFrame_of_thirtyThirdPair hstart hcount hvalid
  case next =>
    rcases exec_frameDecode_cases b s with ⟨code, _, hexec⟩ | ⟨f, _, hexec⟩ | ⟨hout, _⟩
    · exact ⟨.frameOk code, hexec⟩
    · exact ⟨.raised f, hexec⟩
    · exact absurd hout (decodeFrame_inCode b hlen)

end Sys2Proof.Machine
end

section
/-! The Repeat Handler as a step of the machine and as the repeat path of a poll: a burst of at least two values is sorted by
the windows of a `REPEAT` alone (R152 to R154, R162, R185). -/

namespace Sys2Proof.Machine

variable {v0 v1 : Nat} {rest : List Nat} {i : Instr} {s : State}

/-- R152: the symbol and the handler agree on a burst of at least two values; what follows index 1 is not read. -/
theorem exec_repeatBurst (hi : i ∈ [Instr.repeatPair v0 v1, Instr.repeatHandle (v0 :: v1 :: rest)]) (s : State) :
    exec i s = if inRepeatWindows v0 v1 then .next ((applyRepeatPolicy s).emit .repeatOk)
      else .next (s.emit (.raised .invalidRepeatFrame)) := by
  rcases List.mem_pair.1 hi with rfl | rfl
  · simp only [exec, execRepeatPair, repeatValid_iff]
  · simp only [exec, execRepeatHandle, repeatFailure_pair]
    by_cases hw : inRepeatWindows v0 v1
    · rw [if_pos hw, if_pos hw]
    · rw [if_neg hw, if_neg hw]

/-- R153, R162: on a valid repeat burst the policy decides the code. -/
theorem repeatPath_of_inRepeatWindows (hbuf : s.repBuf = v0 :: v1 :: rest) (hw : inRepeatWindows v0 v1) :
    repeatPath s = .next ((applyRepeatPolicy (s.takeBurst .repeated).clearCmdReady).emit (.reply true .okRepeat)) := by
  have hvalid : repeatFailure s.repBuf = none := by rw [hbuf, repeatFailure_pair, if_pos hw]
  simpa [hvalid] using repeatPath_cases s

/-- R162, R185: an invalid repeat burst is consumed all the same, and the code stays. -/
theorem repeatPath_of_not_inRepeatWindows (hbuf : s.repBuf = v0 :: v1 :: rest) (hw : ¬ inRepeatWindows v0 v1) :
    repeatPath s =
      .next ((s.takeBurst .repeated).clearCmdReady.emit (.reply false (.failed .invalidRepeatFrame))) := by
  have hinvalid : repeatFailure s.repBuf = some .invalidRepeatFrame := by rw [hbuf, repeatFailure_pair, if_neg hw]
  simpa [hinvalid] using repeatPath_cases s

/-- R160: an enabled poll is the whole poll. -/
theorem exec_poll_of_enabled (hon : s.cfg.pollAtomic = true ∨ s.pollPhase = .idle) : exec .poll s = pollWhole s :=
  if_pos hon

/-- R162: with only a repeat burst ready, a poll takes the repeat path. -/
theorem pollWhole_of_repReady (hcmd : s.cmdReady = false) (hrep : s.repReady = true) : pollWhole s = repeatPath s := by
  have hpoll : pollWhole s = repeatOrIdle s := by simpa [hcmd] using pollWhole_cases s
  have hpath : repeatOrIdle s = repeatPath s := by simpa [hrep] using repeatOrIdle_cases s
  exact hpoll.trans hpath

/-- Settles O29: the windows choose the branch of the handler and of the poll's repeat path, and `applyRepeatPolicy` writes
the code the policy names. -/
theorem repeatBurstFollowsPolicy : Obligations.RepeatBurstFollowsPolicy := by
  intro v0 v1 rest s
  refine ⟨fun i hi => ⟨fun hw => ?valid, fun hw => ?invalid⟩,
    fun hon hcmd hrep hbuf => ⟨fun hw => ?pollValid, fun hw => ?pollInvalid⟩⟩
  case valid =>
    rw [exec_repeatBurst hi, if_pos hw, applyRepeatPolicy_eq]
    rfl
  case invalid =>
    rw [exec_repeatBurst hi, if_neg hw]
    rfl
  case pollValid =>
    rw [exec_poll_of_enabled hon, pollWhole_of_repReady hcmd hrep, repeatPath_of_inRepeatWindows hbuf hw,
      applyRepeatPolicy_eq]
    rfl
  case pollInvalid =>
    rw [exec_poll_of_enabled hon, pollWhole_of_repReady hcmd hrep, repeatPath_of_not_inRepeatWindows hbuf hw]
    rfl

end Sys2Proof.Machine
end

section
/-! The Decoder Facade: what a poll does with a command burst and with none (R161, R163), and the reading of the code
(R166). -/

namespace Sys2Proof.Machine

variable {s : State}

theorem exec_frameDecode_eq_next_frameOk_iff (b : List Nat) (s : State) (code : Word) :
    exec (.frameDecode b) s = .next { s with out := .frameOk code } ↔ decodeFrame b = .ok code := by
  rcases exec_frameDecode_cases b s with ⟨c, hdec, hexec⟩ | ⟨f, hdec, hexec⟩ | ⟨hdec, hexec⟩ <;> rw [hdec, hexec]
  · exact (next_emit_eq_iff s _ _).trans (by simp)
  · exact (next_emit_eq_iff s _ _).trans (by simp)
  · simp

/-- R161: a burst that decodes is consumed and its code written. -/
theorem commandPath_of_ok {code : Word} (hdec : decodeFrame s.cmdBuf = .ok code) :
    commandPath s = .next (((s.takeBurst .command).setCode code).emit (.reply true .okCommand)) := by
  simpa [hdec] using commandPath_cases s

/-- R161: a burst that fails is consumed all the same, and the code stays. -/
theorem commandPath_of_raised {f : Failure} (hdec : decodeFrame s.cmdBuf = .raised f) :
    commandPath s = .next ((s.takeBurst .command).emit (.reply false (.failed f))) := by
  simpa [hdec] using commandPath_cases s

/-- R160: a command burst comes first, whether a repeat burst is ready or not. -/
theorem pollWhole_of_cmdReady (hcmd : s.cmdReady = true) : pollWhole s = commandPath s := by
  simpa [hcmd] using pollWhole_cases s

/-- R163: with neither flag raised only the reply is put on the port. -/
theorem pollWhole_of_no_burst (hcmd : s.cmdReady = false) (hrep : s.repReady = false) :
    pollWhole s = .next (s.emit (.reply false .noBurst)) := by
  have hpoll : pollWhole s = repeatOrIdle s := by simpa [hcmd] using pollWhole_cases s
  have hidle : repeatOrIdle s = .next (s.emit (.reply false .noBurst)) := by simpa [hrep] using repeatOrIdle_cases s
  exact hpoll.trans hidle

/-- Settles O31: what `FRAME_DECODE` answers is what `decodeFrame` says of the buffer, and that chooses the end of the command
path. -/
theorem pollConsumesCommandBurst : Obligations.PollConsumesCommandBurst := by
  intro s hon hcmd
  rw [exec_poll_of_enabled hon, pollWhole_of_cmdReady hcmd]
  refine ⟨fun code hok => ?decodes, fun f hraised => ?fails⟩
  case decodes =>
    rw [exec_frameDecode_eq_next_frameOk_iff] at hok
    rw [commandPath_of_ok hok]
    rfl
  case fails =>
    rw [exec_frameDecode_eq_next_raised_iff] at hraised
    rw [commandPath_of_raised hraised]
    rfl

/-- Settles O33: an enabled poll with no burst is the idle reply. -/
theorem pollWithoutBurstWritesNothing : Obligations.PollWithoutBurstWritesNothing := by
  intro s hon hcmd hrep
  rw [exec_poll_of_enabled hon, pollWhole_of_no_burst hcmd hrep]
  rfl

/-- Settles O37: `READ_CODE` has no condition, and by its definition puts the code on the port and nothing else. -/
theorem readCodeReturnsCode : Obligations.ReadCodeReturnsCode := fun _ => rfl

end Sys2Proof.Machine
end

section
/-! The exceptions of the decoder: what makes a burst too short (R181), which failures a poll can reply, and what the first
invalid data pair of a frame raises (R183, R184). -/

namespace Sys2Proof.Machine

variable {s : State}

/-! ### A burst that is too short -/

/-- R131, R181: only the length check raises `InsufficientData`; the start and the walk raise failures of their own. -/
theorem decodeFrame_eq_insufficientData_iff (b : List Nat) :
    decodeFrame b = .raised .insufficientData ↔ b.length ≤ 1 := by
  match b with
  | [] => simp [decodeFrame]
  | [_] => simp [decodeFrame]
  | v0 :: v1 :: rest =>
    have hwalk : walkPairs rest 1 0#32 ≠ .raised .insufficientData := fun h => by
      simpa using walkPairs_raised rest 1 0#32 h
    cases hstart : startAccepted v0 v1 <;> simp [decodeFrame, hstart, hwalk]

/-- R151, R181: the same length check for a repeat burst. -/
theorem repeatFailure_eq_insufficientData_iff (b : List Nat) :
    repeatFailure b = some .insufficientData ↔ b.length ≤ 1 := by
  match b with
  | [] => simp [repeatFailure]
  | [_] => simp [repeatFailure]
  | v0 :: v1 :: rest =>
    rw [repeatFailure_pair]
    split <;> simp

/-- R150: what the handler raises is what `repeatFailure` says of the burst; the policy acts only when that is nothing. -/
theorem exec_repeatHandle_eq_next_raised_iff (b : List Nat) (s : State) (f : Failure) :
    exec (.repeatHandle b) s = .next { s with out := .raised f } ↔ repeatFailure b = some f := by
  simp only [exec, execRepeatHandle]
  cases repeatFailure b with
  | none =>
    refine iff_of_false (fun h => ?_) nofun
    have hout : Output.repeatOk = .raised f := congrArg State.out (Host.Outcome.next.inj h)
    cases hout
  | some g => exact (next_emit_eq_iff s _ _).trans (by simp)

/-! ### The failures a poll replies -/

/-- A pending burst of `s`, with its flag raised, fails with `f`. -/
def State.PendingFails (s : State) (f : Failure) : Prop :=
  (s.cmdReady = true ∧ decodeFrame s.cmdBuf = .raised f) ∨ (s.repReady = true ∧ repeatFailure s.repBuf = some f)

/-- The failure an outcome replies, if any, is that of a burst pending in `s`. -/
def FailsByPending (s : State) : Result → Prop
  | .next t => ∀ f, t.out = .reply false (.failed f) → s.PendingFails f
  | .fault _ => True
  | .refused _ => True

theorem FailsByPending.pendingFails {r : Result} {t : State} {f : Failure} (h : FailsByPending s r) (hr : r = .next t)
    (hout : t.out = .reply false (.failed f)) : s.PendingFails f := by
  subst hr
  exact h f hout

theorem commandPath_failsByPending (hcmd : s.cmdReady = true) : FailsByPending s (commandPath s) := by
  rcases commandPath_cases s with ⟨code, _, heq⟩ | ⟨f, hdec, heq⟩ | ⟨_, heq⟩ <;> rw [heq]
  · exact nofun
  · rintro _ ⟨⟩
    exact .inl ⟨hcmd, hdec⟩
  · trivial

theorem repeatOrIdle_failsByPending (s : State) : FailsByPending s (repeatOrIdle s) := by
  rcases repeatOrIdle_cases s with ⟨hrep, heq⟩ | ⟨_, heq⟩ <;> rw [heq]
  · rcases repeatPath_cases s with ⟨_, hpath⟩ | ⟨f, hfail, hpath⟩ <;> rw [hpath]
    · exact nofun
    · rintro _ ⟨⟩
      exact .inr ⟨hrep, hfail⟩
  · exact nofun

theorem execPoll_failsByPending (s : State) : FailsByPending s (execPoll s) := by
  unfold execPoll
  split
  · rcases pollWhole_cases s with ⟨hcmd, heq⟩ | ⟨_, heq⟩ <;> rw [heq]
    · exact commandPath_failsByPending hcmd
    · exact repeatOrIdle_failsByPending s
  · exact nofun

theorem execPollA_failsByPending (s : State) : FailsByPending s (execPollA s) := by
  unfold execPollA
  split
  · split
    next hcmd => exact commandPath_failsByPending hcmd
    next => exact nofun
  · exact nofun

/-- R165: the phase is no part of what is pending. -/
theorem execPollB_failsByPending (s : State) : FailsByPending s (execPollB s) := by
  unfold execPollB
  split
  · exact repeatOrIdle_failsByPending (s.setPhase .idle)
  · exact nofun

theorem execEnvPush_failsByPending (w : Word) (s : State) : FailsByPending s (execEnvPush w s) := by
  unfold execEnvPush
  split
  · exact nofun
  · split <;> exact nofun

theorem execAcqWord_failsByPending (s : State) : FailsByPending s (execAcqWord s) := by
  unfold execAcqWord
  split <;> exact nofun

theorem execReset_failsByPending (pin : Nat) (policy : Bool) (fSrc : Nat) (cfg : Config) (s : State) :
    FailsByPending s (execReset pin policy fSrc cfg s) := by
  unfold execReset
  split
  · split
    · exact nofun
    · trivial
  · trivial

/-- R5, R78: a failure an agent's step replies is that of a pending burst; only the poll, whole or split, replies one. -/
theorem exec_failsByPending {i : Instr} (hi : i.agent ≠ none) (s : State) : FailsByPending s (exec i s) := by
  cases i with
  | envPush w => exact execEnvPush_failsByPending w s
  | acqWord => exact execAcqWord_failsByPending s
  | acqTick => exact nofun
  | poll => exact execPoll_failsByPending s
  | pollA => exact execPollA_failsByPending s
  | pollB => exact execPollB_failsByPending s
  | readCode => exact nofun
  | reset pin policy fSrc cfg => exact execReset_failsByPending pin policy fSrc cfg s
  | _ => exact absurd rfl hi

/-- R35, R181: a burst pending in a state of the block is never too short. -/
theorem State.Inv.not_pendingFails_insufficientData (h : s.Inv) : ¬ s.PendingFails .insufficientData := by
  rintro (⟨hcmd, hdec⟩ | ⟨hrep, hfail⟩)
  · rw [decodeFrame_eq_insufficientData_iff] at hdec
    have hlong := (h.cmdPending hcmd).1
    omega
  · rw [repeatFailure_eq_insufficientData_iff] at hfail
    have htwo := h.repPending hrep
    omega

/-- Settles O21: the length check alone raises it, and the invariant of R35 bounds every pending burst from below. -/
theorem insufficientDataOnlyForShortBursts : Obligations.InsufficientDataOnlyForShortBursts := by
  simp only [Obligations.InsufficientDataOnlyForShortBursts, ne_eq, exec_frameDecode_eq_next_raised_iff,
    exec_repeatHandle_eq_next_raised_iff, decodeFrame_eq_insufficientData_iff, repeatFailure_eq_insufficientData_iff]
  refine ⟨fun b _ hshort => ⟨hshort, hshort⟩, fun b _ hlong => ⟨by omega, by omega⟩, fun i s t hs hi hexec hout => ?runs⟩
  case runs =>
    have hinv : s.Inv := reachableStatesMeetInvariant s hs
    exact hinv.not_pendingFails_insufficientData ((exec_failsByPending hi s).pendingFails hexec hout)

/-! ### The first invalid pair of a frame -/

/-- R183, R184: a pair that is neither a `0` nor a `1` fails by its sum. -/
theorem decodePair_of_invalid {k p1 p2 : Nat} (hk : 1 ≤ k) (hk' : k ≤ 32) (hzero : ¬ inZeroWindows p1 p2)
    (hone : ¬ inOneWindows p1 p2) (code : Word) :
    decodePair k code p1 p2 = .raised (if 1680 < p1 + p2 then .invalidOneBit else .invalidZeroBit) := by
  rcases decodePair_cases k code p1 p2 with
    ⟨hout, _⟩ | ⟨_, hpair, _⟩ | ⟨_, hpair, _⟩ | ⟨_, hsum, _, _, heq⟩ | ⟨_, hsum, _, _, heq⟩
  · simp [(pairInCode_iff k).2 ⟨hk, hk'⟩] at hout
  · exact absurd ((isOnePair_iff p1 p2).1 hpair) hone
  · exact absurd ((isZeroPair_iff p1 p2).1 hpair) hzero
  · rw [heq, if_pos hsum]
  · rw [heq, if_neg hsum.not_gt]

theorem walkPairs_cons_of_raised {k p1 p2 : Nat} {code : Word} {f : Failure} (h : decodePair k code p1 p2 = .raised f)
    (rest : List Nat) : walkPairs (p1 :: p2 :: rest) k code = .raised f := by
  simp [walkPairs, h]

/-- R133, R183, R184: the walk passes the valid pairs before pair `k` and ends at pair `k`. -/
theorem decodeFrame_of_firstBadPair {b : List Nat} {k : Nat} (hstart : inStartWindows (b.getD 0 0) (b.getD 1 0))
    (hk : 1 ≤ k) (hcount : k ≤ pairCount b) (hk' : k ≤ 32)
    (hvalid : ∀ m, 1 ≤ m → m < k →
      inZeroWindows (pairMark b m) (pairSpace b m) ∨ inOneWindows (pairMark b m) (pairSpace b m))
    (hzero : ¬ inZeroWindows (pairMark b k) (pairSpace b k)) (hone : ¬ inOneWindows (pairMark b k) (pairSpace b k)) :
    decodeFrame b =
      .raised (if 1680 < pairMark b k + pairSpace b k then .invalidOneBit else .invalidZeroBit) := by
  have hlen : 2 ≤ b.length := by unfold pairCount at hcount; omega
  obtain ⟨n, rfl⟩ := Nat.exists_eq_add_of_le' hk
  obtain ⟨code, hwalk⟩ := walkPairs_passes_validPairs 0#32 (n := n) (by omega) (by omega)
    fun m hm hmn => hvalid m hm (by omega)
  rw [decodeFrame_of_startAccepted hlen hstart, hwalk, drop_eq_pair_cons hk hcount,
    walkPairs_cons_of_raised (decodePair_of_invalid hk hk' hzero hone code)]

/-- Settles O24: `FRAME_DECODE` raises what `decodeFrame` does, and that is the failure of pair `k`. -/
theorem firstBadPairDecidesFailure : Obligations.FirstBadPairDecidesFailure := by
  intro b s k hstart hk hcount hk' hvalid hzero hone
  rw [exec_frameDecode_eq_next_raised_iff]
  exact decodeFrame_of_firstBadPair hstart hk hcount hk' hvalid hzero hone

end Sys2Proof.Machine
end

section
/-! `RESET` (R210, R9): the parameters it admits and the state it builds. -/

namespace Sys2Proof.Machine

variable {pin : Nat} {policy : Bool} {fSrc : Nat} {cfg : Config}

/-- R8, R9: the constraints on the parameters, but the one on `F_SRC`. -/
theorem config_valid_iff (cfg : Config) :
    cfg.valid = true ↔ 34 ≤ cfg.accDepth ∧ cfg.accDepth ≤ 67 ∧ 1 ≤ cfg.srcFifoDepth := by
  simp [Config.valid, and_assoc]

/-- R210: construction with admitted parameters; only the requests still to come are kept. -/
theorem exec_reset_of_valid (hsrc : 1 ≤ fSrc) (hcfg : cfg.valid = true) (s : State) :
    exec (.reset pin policy fSrc cfg) s =
      .next ((State.built pin policy ⟨fSrc, hsrc⟩ cfg).setRequests s.requests) := by
  simp only [exec, execReset, dif_pos hsrc, if_pos hcfg]

/-- R9: either constraint broken is enough for the refusal. -/
theorem exec_reset_of_forbidden (hbad : ¬ (1 ≤ fSrc ∧ cfg.valid = true)) (s : State) :
    exec (.reset pin policy fSrc cfg) s = .refused .invalidInstance := by
  simp only [exec, execReset]
  by_cases hsrc : 1 ≤ fSrc
  · rw [dif_pos hsrc, if_neg fun hcfg => hbad ⟨hsrc, hcfg⟩]
  · rw [dif_neg hsrc]

/-- Settles O41: the bounds are `Config.valid` and the type of `F_SRC`; with both the next state is the one built, whose fields
stand in `State.built`. -/
theorem resetInstallsEveryElement : Obligations.ResetInstallsEveryElement := by
  intro pin policy fSrc cfg s
  refine ⟨fun hsrc hlow hhigh hfifo => ?built, fun hforbidden => ?refused⟩
  case built =>
    have hcfg : cfg.valid = true := (config_valid_iff cfg).2 ⟨hlow, hhigh, hfifo⟩
    exact ⟨_, exec_reset_of_valid hsrc hcfg s, rfl, rfl, rfl, rfl, rfl, rfl, rfl, rfl, rfl, rfl, rfl, rfl, rfl⟩
  case refused =>
    refine exec_reset_of_forbidden (fun ⟨hsrc, hcfg⟩ => ?_) s
    obtain ⟨hlow, hhigh, _⟩ := (config_valid_iff cfg).1 hcfg
    omega

end Sys2Proof.Machine
end

section
/-! A repeat frame delivered as three values (R218): its length makes it a command burst, its mark passes the start check, and
its third value has no partner. -/

namespace Sys2Proof.Machine

/-- R53, R132, R133: three values hold no data pair, so an accepted start is the whole frame and the code stays 0. -/
theorem decodeFrame_of_three_values {v0 v1 : Nat} (hstart : inStartWindows v0 v1) (v2 : Nat) :
    decodeFrame [v0, v1, v2] = .ok 0#32 :=
  decodeFrame_of_startAccepted (by simp) hstart

/-- R160, R161: an enabled poll of a command burst that decodes. -/
theorem exec_poll_of_decodes {s : State} {code : Word} (hon : s.cfg.pollAtomic = true ∨ s.pollPhase = .idle)
    (hcmd : s.cmdReady = true) (hdec : decodeFrame s.cmdBuf = .ok code) :
    exec .poll s = .next (((s.takeBurst .command).setCode code).emit (.reply true .okCommand)) := by
  rw [exec_poll_of_enabled hon, pollWhole_of_cmdReady hcmd, commandPath_of_ok hdec]

/-- Settles O53: `finalizeBurst` stores three values as a command burst, and the mark's window alone passes the start check. -/
theorem threeValueRepeatBecomesCodeZero : Obligations.ThreeValueRepeatBecomesCodeZero := by
  intro s a b c u hacc hov hon hmicros hlow hhigh
  have hmark : toMicros s.fSrc a = u := (exec_toUs_eq_next_micros_iff a s u).1 hmicros
  have hburst : convertBurst s = [u, toMicros s.fSrc b, toMicros s.fSrc c] := by simp [convertBurst, hacc, hmark]
  have hstored : exec .finalize s = .next ((s.storeBurst .command (convertBurst s)).clearAcc.emit .silent) := by
    rw [exec_burstEnd (by simp), finalizeBurst_of_two_lt_length hov (by simp [hacc])]
  have hdecoded : decodeFrame (convertBurst s) = .ok 0#32 := by
    rw [hburst]
    exact decodeFrame_of_three_values (.inl ⟨hlow, hhigh⟩) _
  exact ⟨_, hstored, rfl, rfl, _, exec_poll_of_decodes hon rfl hdecoded, rfl, rfl⟩

end Sys2Proof.Machine
end

section
/-! The cross-kind clear (R162, R165, R215): what `POLL_B` does with both flags raised, what the buffer it leaves behind can
still do, and how an atomic poll clears the flag. -/

namespace Sys2Proof.Machine

variable {s t t' : State} {b stale : List Nat}

/-! ### A stale command buffer -/

/-- The state with another content of the command buffer. -/
def State.withCmdBuf (stale : List Nat) (s : State) : State := { s with cmdBuf := stale }

/-- Two runs that started apart only in an unflagged command buffer, `b` in the first and `stale` in the second: they still do,
or they have become one. -/
def StaleOrSame (b stale : List Nat) (t t' : State) : Prop :=
  (t' = t.withCmdBuf stale ∧ t.cmdBuf = b ∧ t.cmdReady = false) ∨ t' = t

theorem staleOrSame_withCmdBuf (hbuf : t.cmdBuf = b) (hclear : t.cmdReady = false) :
    StaleOrSame b stale t (t.withCmdBuf stale) :=
  .inl ⟨rfl, hbuf, hclear⟩

theorem finalizeBurst_staleOrSame (h : StaleOrSame b stale t t') :
    StaleOrSame b stale (finalizeBurst t) (finalizeBurst t') := by
  rcases h with ⟨rfl, hbuf, hclear⟩ | rfl
  · rcases finalizeBurst_cases t with ⟨hov, htwo, heq⟩ | ⟨hov, hlong, heq⟩ | ⟨hdrop, heq⟩
    · rw [heq, finalizeBurst_of_length_eq_two (s := t.withCmdBuf stale) hov htwo]
      exact .inl ⟨rfl, hbuf, hclear⟩
    · rw [heq, finalizeBurst_of_two_lt_length (s := t.withCmdBuf stale) hov hlong]
      exact .inr rfl
    · rw [heq, finalizeBurst_of_dropped (s := t.withCmdBuf stale) hdrop]
      exact .inl ⟨rfl, hbuf, hclear⟩
  · exact .inr rfl

theorem appendTick_staleOrSame (w : Word) (h : StaleOrSame b stale t t') :
    StaleOrSame b stale (appendTick w t) (appendTick w t') := by
  rcases h with ⟨rfl, hbuf, hclear⟩ | rfl
  · rcases appendTick_cases w t with ⟨hroom, heq⟩ | ⟨hfull, heq⟩
    · rw [heq, appendTick_of_lt w (s := t.withCmdBuf stale) hroom]
      exact .inl ⟨rfl, hbuf, hclear⟩
    · rw [heq, appendTick_of_le w (s := t.withCmdBuf stale) hfull]
      exact .inl ⟨rfl, hbuf, hclear⟩
  · exact .inr rfl

theorem acquireWord_staleOrSame (w : Word) (h : StaleOrSame b stale t t') :
    StaleOrSame b stale (acquireWord w t) (acquireWord w t') := by
  unfold acquireWord
  split
  · exact finalizeBurst_staleOrSame h
  · exact appendTick_staleOrSame w h

theorem StaleOrSame.setSrcq (h : StaleOrSame b stale t t') (q : List Word) :
    StaleOrSame b stale (t.setSrcq q) (t'.setSrcq q) := by
  rcases h with ⟨rfl, hbuf, hclear⟩ | rfl
  · exact .inl ⟨rfl, hbuf, hclear⟩
  · exact .inr rfl

theorem StaleOrSame.emit (h : StaleOrSame b stale t t') (o : Output) :
    StaleOrSame b stale (t.emit o) (t'.emit o) := by
  rcases h with ⟨rfl, hbuf, hclear⟩ | rfl
  · exact .inl ⟨rfl, hbuf, hclear⟩
  · exact .inr rfl

/-- R110: a tick replaces the stale content with the first command burst it stores, and from there the runs are one. -/
theorem drainWords_staleOrSame (q : List Word) (h : StaleOrSame b stale t t') :
    StaleOrSame b stale (drainWords q t) (drainWords q t') := by
  induction q generalizing t t' with
  | nil => exact h
  | cons w rest ih => exact ih (acquireWord_staleOrSame w (h.setSrcq rest))

/-- The second outcome is the first one's next state up to the stale buffer; nothing is said when the first has none. -/
def AgreesUpToStale (b stale : List Nat) (r r' : Result) : Prop :=
  ∀ t, r = .next t → ∃ t', r' = .next t' ∧ StaleOrSame b stale t t'

theorem StaleOrSame.next (h : StaleOrSame b stale t t') : AgreesUpToStale b stale (.next t) (.next t') := by
  rintro _ ⟨⟩
  exact ⟨t', rfl, h⟩

theorem next_agreesUpToStale (hbuf : t.cmdBuf = b) (hclear : t.cmdReady = false) :
    AgreesUpToStale b stale (.next t) (.next (t.withCmdBuf stale)) :=
  (staleOrSame_withCmdBuf hbuf hclear).next

/-- A test that does not look at the command buffer goes the same way in both runs. -/
theorem AgreesUpToStale.ite {c : Prop} [Decidable c] {r₁ r₁' r₂ r₂' : Result} (h₁ : AgreesUpToStale b stale r₁ r₁')
    (h₂ : AgreesUpToStale b stale r₂ r₂') :
    AgreesUpToStale b stale (if c then r₁ else r₂) (if c then r₁' else r₂') := by
  by_cases hc : c
  · rwa [if_pos hc, if_pos hc]
  · rwa [if_neg hc, if_neg hc]

theorem notEnabled_agreesUpToStale (hclear : s.cmdReady = false) :
    AgreesUpToStale s.cmdBuf stale (notEnabled s) (notEnabled (s.withCmdBuf stale)) :=
  next_agreesUpToStale rfl hclear

theorem execEnvPush_agreesUpToStale (w : Word) (hclear : s.cmdReady = false) :
    AgreesUpToStale s.cmdBuf stale (execEnvPush w s) (execEnvPush w (s.withCmdBuf stale)) :=
  .ite (next_agreesUpToStale rfl hclear)
    (.ite (next_agreesUpToStale rfl hclear) (notEnabled_agreesUpToStale hclear))

theorem execAcqWord_agreesUpToStale (hclear : s.cmdReady = false) :
    AgreesUpToStale s.cmdBuf stale (execAcqWord s) (execAcqWord (s.withCmdBuf stale)) := by
  have hstart : StaleOrSame s.cmdBuf stale s (s.withCmdBuf stale) := staleOrSame_withCmdBuf rfl hclear
  have hqueue : (s.withCmdBuf stale).srcq = s.srcq := rfl
  simp only [execAcqWord, hqueue]
  cases s.srcq with
  | nil => exact notEnabled_agreesUpToStale hclear
  | cons w rest => exact ((acquireWord_staleOrSame w (hstart.setSrcq rest)).emit _).next

theorem execAcqTick_agreesUpToStale (hclear : s.cmdReady = false) :
    AgreesUpToStale s.cmdBuf stale (execAcqTick s) (execAcqTick (s.withCmdBuf stale)) :=
  ((drainWords_staleOrSame s.srcq (staleOrSame_withCmdBuf rfl hclear)).emit _).next

/-- R162: the repeat path reads the repeat burst alone, and its cross-kind clear leaves the command buffer. -/
theorem repeatPath_agreesUpToStale : AgreesUpToStale s.cmdBuf stale (repeatPath s) (repeatPath (s.withCmdBuf stale)) := by
  have hburst : (s.withCmdBuf stale).repBuf = s.repBuf := rfl
  simp only [repeatPath, pending_repeated, hburst, applyRepeatPolicy_eq]
  cases repeatFailure s.repBuf with
  | none => exact next_agreesUpToStale rfl rfl
  | some f => exact next_agreesUpToStale rfl rfl

theorem repeatOrIdle_agreesUpToStale (hclear : s.cmdReady = false) :
    AgreesUpToStale s.cmdBuf stale (repeatOrIdle s) (repeatOrIdle (s.withCmdBuf stale)) :=
  .ite repeatPath_agreesUpToStale (next_agreesUpToStale rfl hclear)

theorem pollWhole_of_not_cmdReady (hclear : s.cmdReady = false) : pollWhole s = repeatOrIdle s := by
  simpa [hclear] using pollWhole_cases s

theorem execPoll_agreesUpToStale (hclear : s.cmdReady = false) :
    AgreesUpToStale s.cmdBuf stale (execPoll s) (execPoll (s.withCmdBuf stale)) := by
  refine .ite ?_ (notEnabled_agreesUpToStale hclear)
  rw [pollWhole_of_not_cmdReady hclear, pollWhole_of_not_cmdReady (s := s.withCmdBuf stale) hclear]
  exact repeatOrIdle_agreesUpToStale hclear

/-- R165: with the flag clear the first half of a split poll only moves the phase. -/
theorem execPollA_of_not_cmdReady (hclear : s.cmdReady = false) :
    execPollA s =
      if s.cfg.pollAtomic = false ∧ s.pollPhase = .idle then .next ((s.setPhase .repeatCheck).emit .silent)
      else notEnabled s := by
  simp [execPollA, hclear]

theorem execPollA_agreesUpToStale (hclear : s.cmdReady = false) :
    AgreesUpToStale s.cmdBuf stale (execPollA s) (execPollA (s.withCmdBuf stale)) := by
  rw [execPollA_of_not_cmdReady hclear, execPollA_of_not_cmdReady (s := s.withCmdBuf stale) hclear]
  exact .ite (next_agreesUpToStale rfl hclear) (notEnabled_agreesUpToStale hclear)

theorem execPollB_agreesUpToStale (hclear : s.cmdReady = false) :
    AgreesUpToStale s.cmdBuf stale (execPollB s) (execPollB (s.withCmdBuf stale)) :=
  .ite (repeatOrIdle_agreesUpToStale (s := s.setPhase .idle) hclear) (notEnabled_agreesUpToStale hclear)

/-- R35: no agent's step reads the command buffer while its flag is clear. -/
theorem exec_agreesUpToStale {i : Instr} (hi : i.agent ≠ none) (hclear : s.cmdReady = false) :
    AgreesUpToStale s.cmdBuf stale (exec i s) (exec i (s.withCmdBuf stale)) := by
  cases i with
  | envPush w => exact execEnvPush_agreesUpToStale w hclear
  | acqWord => exact execAcqWord_agreesUpToStale hclear
  | acqTick => exact execAcqTick_agreesUpToStale hclear
  | poll => exact execPoll_agreesUpToStale hclear
  | pollA => exact execPollA_agreesUpToStale hclear
  | pollB => exact execPollB_agreesUpToStale hclear
  | readCode => exact next_agreesUpToStale rfl hclear
  | reset pin policy fSrc cfg => exact fun t ht => ⟨t, ht, .inr rfl⟩
  | _ => exact absurd rfl hi

/-! ### The clear itself -/

/-- R162, R165: an enabled second half of a split poll with a repeat burst ready takes the repeat path. -/
theorem exec_pollB_of_repReady (hsplit : s.cfg.pollAtomic = false) (hphase : s.pollPhase = .repeatCheck)
    (hrep : s.repReady = true) : exec .pollB s = repeatPath (s.setPhase .idle) := by
  have hcheck : exec .pollB s = repeatOrIdle (s.setPhase .idle) := if_pos ⟨hsplit, hphase⟩
  exact hcheck.trans (if_pos hrep)

/-- R162, R215: the repeat path drops the command flag and leaves the burst it stood for; the code is what the repeat makes
it. -/
theorem repeatPath_clears_command (h : repeatPath s = .next t) :
    t.cmdReady = false ∧ t.cmdBuf = s.cmdBuf ∧ t.out ≠ .reply true .okCommand ∧
      t.commandCode =
        if inRepeatWindows (s.repBuf.getD 0 0) (s.repBuf.getD 1 0) ∧ s.repeatPolicy = false then 0xFFFFFFFF#32
        else s.commandCode := by
  simp only [← repeatFailure_eq_none_iff]
  rcases repeatPath_cases s with ⟨hvalid, heq⟩ | ⟨f, hfail, heq⟩ <;> rw [heq] at h <;> cases h
  · rw [applyRepeatPolicy_eq]
    refine ⟨rfl, rfl, nofun, ?code⟩
    case code =>
      cases hpolicy : s.repeatPolicy <;> simp [hvalid, hpolicy]
  · exact ⟨rfl, rfl, nofun, by simp [hfail]⟩

/-- R165: the halves of a split poll are no steps of an atomic one. -/
theorem exec_pollA_of_atomic (hatomic : s.cfg.pollAtomic = true) : exec .pollA s = notEnabled s :=
  if_neg (by simp [hatomic])

theorem exec_pollB_of_atomic (hatomic : s.cfg.pollAtomic = true) : exec .pollB s = notEnabled s :=
  if_neg (by simp [hatomic])

/-- R161: the command path ends with the burst decoded, to a code or to a failure. -/
theorem commandPath_decodes (h : commandPath s = .next t) :
    (∃ code, decodeFrame s.cmdBuf = .ok code ∧ t.commandCode = code ∧ t.out = .reply true .okCommand) ∨
      (∃ f, decodeFrame s.cmdBuf = .raised f ∧ t.out = .reply false (.failed f)) := by
  rcases commandPath_cases s with ⟨code, hdec, heq⟩ | ⟨f, hdec, heq⟩ | ⟨_, heq⟩ <;> rw [heq] at h <;> cases h
  · exact .inl ⟨code, hdec, rfl, rfl⟩
  · exact .inr ⟨f, hdec, rfl⟩

/-- R5, R160, R165: with an atomic poll only `POLL` of the polling context's steps clears a raised flag. -/
theorem eq_poll_of_clears_cmdReady {i : Instr} (hatomic : s.cfg.pollAtomic = true) (hi : i.agent = some .app)
    (hexec : exec i s = .next t) (hraised : s.cmdReady = true) (hcleared : t.cmdReady = false) : i = .poll := by
  have hkept (o : Output) (h : (.next (s.emit o) : Result) = .next t) : i = .poll := by
    cases h
    simp [hraised] at hcleared
  cases i with
  | poll => rfl
  | pollA => exact hkept .notEnabled ((exec_pollA_of_atomic hatomic).symm.trans hexec)
  | pollB => exact hkept .notEnabled ((exec_pollB_of_atomic hatomic).symm.trans hexec)
  | readCode => exact hkept (.code s.commandCode) hexec
  | _ => cases hi

/-- Settles O36: the clear is that of the repeat path (`repeatPath_clears_command`), the buffer it leaves is never read
(`exec_agreesUpToStale`), and an atomic poll with the flag raised takes the command path, which decodes the burst. -/
theorem crossKindClearLosesOnlyInSplitPoll : Obligations.CrossKindClearLosesOnlyInSplitPoll := by
  refine ⟨fun s t hsplit hphase _ hrep hexec => ?clear, fun i s t stale hi hclear hexec => ?stale,
    fun i s t hatomic hi hexec hraised hcleared => ?atomic⟩
  case clear =>
    rw [exec_pollB_of_repReady hsplit hphase hrep] at hexec
    exact repeatPath_clears_command (s := s.setPhase .idle) hexec
  case stale =>
    obtain ⟨t', hexec', ⟨rfl, hbuf, hclear'⟩ | rfl⟩ := exec_agreesUpToStale hi hclear (stale := stale) t hexec
    · exact .inl ⟨hexec', hbuf, hclear'⟩
    · exact .inr hexec'
  case atomic =>
    obtain rfl := eq_poll_of_clears_cmdReady hatomic hi hexec hraised hcleared
    rw [exec_poll_of_enabled (.inl hatomic), pollWhole_of_cmdReady hraised] at hexec
    simp only [exec_frameDecode_eq_next_frameOk_iff, exec_frameDecode_eq_next_raised_iff]
    exact ⟨trivial, commandPath_decodes hexec⟩

end Sys2Proof.Machine
end

section
/-! The decoder and the encoder (R70, R75, R78, R124): the round trip, and what a request can decode to. -/

namespace Sys2Proof.Machine

/-- Settles O1: the round trip of `Laws.RoundTrip`, row by row. -/
theorem decodeInvertsEncode : Obligations.DecodeInvertsEncode := by
  intro i
  cases i with
  | timeout => exact Laws.RoundTrip.timeout
  | tick t => exact Laws.RoundTrip.tick t
  | start p1 p2 => exact Laws.RoundTrip.start p1 p2
  | zero p1 p2 => exact Laws.RoundTrip.zero p1 p2
  | one p1 p2 => exact Laws.RoundTrip.one p1 p2
  | repeatPair p1 p2 => exact Laws.RoundTrip.repeatPair p1 p2
  | envPush w => exact Laws.RoundTrip.envPush w
  | acqWord => exact Laws.RoundTrip.acqWord
  | append w => exact Laws.RoundTrip.append w
  | finalize => exact Laws.RoundTrip.finalize
  | acqTick => exact Laws.RoundTrip.acqTick
  | toUs t => exact Laws.RoundTrip.toUs t
  | matchTest v e => exact Laws.RoundTrip.matchTest v e
  | isZero p1 p2 => exact Laws.RoundTrip.isZero p1 p2
  | isOne p1 p2 => exact Laws.RoundTrip.isOne p1 p2
  | frameDecode b => exact Laws.RoundTrip.frameDecode b
  | repeatHandle b => exact Laws.RoundTrip.repeatHandle b
  | poll => exact Laws.RoundTrip.poll
  | pollA => exact Laws.RoundTrip.pollA
  | pollB => exact Laws.RoundTrip.pollB
  | readCode => exact Laws.RoundTrip.readCode
  | take kind => exact Laws.RoundTrip.take kind
  | reset pin policy fSrc cfg => exact Laws.RoundTrip.reset pin policy fSrc cfg
  | okCommand => exact Laws.RoundTrip.okCommand
  | okRepeat => exact Laws.RoundTrip.okRepeat
  | noBurst => exact Laws.RoundTrip.noBurst
  | insufficientData => exact Laws.RoundTrip.insufficientData
  | invalidStartSequence => exact Laws.RoundTrip.invalidStartSequence
  | invalidZeroBit => exact Laws.RoundTrip.invalidZeroBit
  | invalidOneBit => exact Laws.RoundTrip.invalidOneBit
  | invalidRepeatFrame => exact Laws.RoundTrip.invalidRepeatFrame
  | repeatSentinel => exact Laws.RoundTrip.repeatSentinel

/-! ### What the classes of values decode to -/

theorem decodeSourceWord_eq (w : Word) : decodeSourceWord w = if w = 0xFFFFFFFF#32 then .timeout else .tick w := by
  simp only [decodeSourceWord, isMarker_iff]

/-- R124: the sum of a `0` never exceeds the threshold and that of a `1` always does, so sorting by the sum first is sorting by
the windows. -/
theorem decodeDataPair_eq (p1 p2 : Nat) :
    decodeDataPair p1 p2 =
      if inZeroWindows p1 p2 then .zero p1 p2
      else if inOneWindows p1 p2 then .one p1 p2
      else if 1680 < p1 + p2 then .invalidOneBit
      else .invalidZeroBit := by
  simp only [decodeDataPair, heldToBeOne_iff, isOnePair_iff, isZeroPair_iff]
  by_cases hsum : 1680 < p1 + p2
  · have hzero : ¬ inZeroWindows p1 p2 := by unfold inZeroWindows; omega
    simp only [if_pos hsum, if_neg hzero]
  · have hone : ¬ inOneWindows p1 p2 := by unfold inOneWindows; omega
    simp only [if_neg hsum, if_neg hone]

/-- Settles O3: a 32-bit word of the opcode table goes the source word's way. -/
theorem sourceWordIsMarkerOrTick : Obligations.SourceWordIsMarkerOrTick := by
  intro w
  have hdecode : decode ⟨.sourceWord, [w.toNat]⟩ = .ok (if w = 0xFFFFFFFF#32 then .timeout else .tick w) := by
    rw [← decodeSourceWord_eq]
    exact Laws.asWord_toNat w fun w => .ok (decodeSourceWord w)
  exact ⟨hdecode, congrArg Except.toOption hdecode⟩

/-- Settles O4: both values fit, so the pair decodes as `decodeDataPair` sorts it. -/
theorem dataPairDecodesByWindows : Obligations.DataPairDecodesByWindows := by
  intro p1 p2 h1 h2
  rw [← decodeDataPair_eq]
  exact Laws.asPair_fits .dataPair p1 p2 decodeDataPair h1 h2

/-- Settles O5: each request is closed, and the decoder runs on it. -/
theorem specWordsDecodeToTheirRows : Obligations.SpecWordsDecodeToTheirRows := by
  unfold Obligations.SpecWordsDecodeToTheirRows
  decide

/-! ### The decoder gives only well-formed instructions -/

/-- The instruction, when the decoder gives one, has the operands of its row. -/
def OkWellFormed : Except DecodeError Instr → Prop
  | .ok i => i.wellFormed = true
  | .error _ => True

theorem okWellFormed_ok {i : Instr} (hi : i.wellFormed = true) : OkWellFormed (.ok i) := hi

theorem noValue_okWellFormed {i : Instr} (hi : i.wellFormed = true) (r : Request) : OkWellFormed (noValue r i) := by
  unfold noValue
  split
  · exact hi
  · trivial

theorem oneValue_okWellFormed {f : Nat → Except DecodeError Instr} (hf : ∀ n, OkWellFormed (f n)) (r : Request) :
    OkWellFormed (oneValue r f) := by
  unfold oneValue
  split
  · exact hf _
  · trivial

theorem twoValues_okWellFormed {f : Nat → Nat → Except DecodeError Instr} (hf : ∀ m n, OkWellFormed (f m n))
    (r : Request) : OkWellFormed (twoValues r f) := by
  unfold twoValues
  split
  · exact hf _ _
  · trivial

theorem asWord_okWellFormed {f : Word → Except DecodeError Instr} (hf : ∀ w, OkWellFormed (f w)) (n : Nat) :
    OkWellFormed (asWord n f) := by
  unfold asWord
  split
  · exact hf _
  · trivial

theorem asMicros_okWellFormed {v : Nat} {f : Nat → Except DecodeError Instr}
    (hf : fitsMicros v = true → OkWellFormed (f v)) : OkWellFormed (asMicros v f) := by
  unfold asMicros
  split
  · exact hf ‹_›
  · trivial

theorem asBit_okWellFormed {f : Bool → Except DecodeError Instr} (hf : ∀ b, OkWellFormed (f b)) (n : Nat) :
    OkWellFormed (asBit n f) := by
  unfold asBit
  split
  · exact hf false
  · exact hf true
  · trivial

/-- R70: a tick count is not the marker. -/
theorem asTick_append_okWellFormed (n : Nat) : OkWellFormed (asTick n .append) := by
  refine asWord_okWellFormed (fun w => ?_) n
  cases hw : isMarker w
  · simp [OkWellFormed, Instr.wellFormed, hw]
  · trivial

theorem asPair_okWellFormed {f : Nat → Nat → Instr}
    (hf : ∀ p1 p2, fitsMicros p1 = true → fitsMicros p2 = true → (f p1 p2).wellFormed = true) (r : Request) :
    OkWellFormed (asPair r f) :=
  twoValues_okWellFormed (fun p1 p2 => asMicros_okWellFormed fun h1 => asMicros_okWellFormed fun h2 =>
    okWellFormed_ok (hf p1 p2 h1 h2)) r

theorem asBurst_okWellFormed {f : List Nat → Instr} (hf : ∀ b, b.all fitsMicros = true → (f b).wellFormed = true)
    (r : Request) : OkWellFormed (asBurst r f) := by
  unfold asBurst
  split
  · exact hf _ ‹_›
  · trivial

theorem decodeSourceWord_wellFormed (w : Word) : (decodeSourceWord w).wellFormed = true := by
  unfold decodeSourceWord
  split
  · rfl
  next hw => simpa [Instr.wellFormed] using hw

theorem decodeStartPair_wellFormed {v0 v1 : Nat} (h0 : fitsMicros v0 = true) (h1 : fitsMicros v1 = true) :
    (decodeStartPair v0 v1).wellFormed = true := by
  unfold decodeStartPair
  split
  · simp [Instr.wellFormed, *]
  · rfl

/-- R134, R135: a symbol's pair has passed the symbol's own test. -/
theorem decodeDataPair_wellFormed (p1 p2 : Nat) : (decodeDataPair p1 p2).wellFormed = true := by
  unfold decodeDataPair
  split
  · split
    · assumption
    · rfl
  · split
    · assumption
    · rfl

theorem decodeRepeatPair_wellFormed (v0 v1 : Nat) : (decodeRepeatPair v0 v1).wellFormed = true := by
  unfold decodeRepeatPair
  split
  · assumption
  · rfl

theorem decodeStatus_okWellFormed (n : Nat) : OkWellFormed (decodeStatus n) := by
  unfold decodeStatus
  split <;> trivial

theorem decodeReset_okWellFormed (r : Request) : OkWellFormed (decodeReset r) := by
  unfold decodeReset
  split
  · exact asBit_okWellFormed (fun _ => asBit_okWellFormed (fun _ => asWord_okWellFormed (fun _ =>
      asBit_okWellFormed (fun _ => okWellFormed_ok rfl) _) _) _) _
  · trivial

/-- R77: the one value of the command code that is a row. -/
theorem decode_codeValue_okWellFormed (data : List Nat) : OkWellFormed (decode ⟨.codeValue, data⟩) := by
  refine oneValue_okWellFormed (fun n => asWord_okWellFormed (fun w => ?_) n) _
  split
  · exact okWellFormed_ok rfl
  · trivial

/-- R120: an expected duration is one of the five constants. -/
theorem decode_matchTest_okWellFormed (data : List Nat) : OkWellFormed (decode ⟨.matchTest, data⟩) := by
  refine twoValues_okWellFormed (fun v e => asMicros_okWellFormed fun hv => ?_) _
  split
  next he => exact okWellFormed_ok (by simp [Instr.wellFormed, hv, he])
  next => trivial

/-- R82: channel by channel. -/
theorem decode_okWellFormed (r : Request) : OkWellFormed (decode r) := by
  obtain ⟨channel, data⟩ := r
  cases channel with
  | src | toUs =>
    exact oneValue_okWellFormed (fun n => asWord_okWellFormed (fun _ => okWellFormed_ok rfl) n) _
  | acqTick | poll | commandCode | acqWord | pollA | pollB | finalize => exact noValue_okWellFormed rfl _
  | rst => exact decodeReset_okWellFormed _
  | sourceWord =>
    exact oneValue_okWellFormed
      (fun n => asWord_okWellFormed (fun w => okWellFormed_ok (decodeSourceWord_wellFormed w)) n) _
  | startPair => exact asPair_okWellFormed (fun _ _ => decodeStartPair_wellFormed) _
  | dataPair => exact asPair_okWellFormed (fun p1 p2 _ _ => decodeDataPair_wellFormed p1 p2) _
  | repeatPair => exact asPair_okWellFormed (fun p1 p2 _ _ => decodeRepeatPair_wellFormed p1 p2) _
  | status => exact oneValue_okWellFormed decodeStatus_okWellFormed _
  | codeValue => exact decode_codeValue_okWellFormed data
  | append => exact oneValue_okWellFormed asTick_append_okWellFormed _
  | matchTest => exact decode_matchTest_okWellFormed data
  | isZero | isOne => exact asPair_okWellFormed (fun _ _ h1 h2 => by simp [Instr.wellFormed, h1, h2]) _
  | frameDecode => exact asBurst_okWellFormed (f := .frameDecode) (fun _ hb => hb) _
  | repeatHandle => exact asBurst_okWellFormed (f := .repeatHandle) (fun _ hb => hb) _
  | take => exact oneValue_okWellFormed (fun n => asBit_okWellFormed (fun _ => okWellFormed_ok rfl) n) _

/-- Settles O2, by `decode_okWellFormed`. -/
theorem decodedInstructionIsWellFormed : Obligations.DecodedInstructionIsWellFormed := by
  intro r i hdecode
  have hok := decode_okWellFormed r
  rw [hdecode] at hok
  exact hok

end Sys2Proof.Machine
end

section
/-! One step of the machine (R5, R198): the oldest request is decoded and run, and the invariant of R35 is kept. -/

namespace Sys2Proof.Machine

variable {s t : State} {r : Request} {i : Instr}

theorem step_of_nil (hreq : s.requests = []) : step s = .next (s.emit .silent) := by
  simp [step, nextRequest, hreq]

theorem step_of_cons {rest : List Request} (hreq : s.requests = r :: rest) (hdec : decode r = .ok i) :
    step s = exec i (s.setRequests rest) := by
  simp [step, nextRequest, hreq, hdec]

/-- The outcomes of a step: nothing requested, an instruction, or no instruction. -/
theorem step_cases (s : State) :
    (s.requests = [] ∧ step s = .next (s.emit .silent)) ∨
      (∃ r rest i, s.requests = r :: rest ∧ decode r = .ok i ∧ step s = exec i (s.setRequests rest)) ∨
      (∃ e, step s = .refused (.undecodable e)) := by
  cases hreq : s.requests with
  | nil => exact .inl ⟨rfl, step_of_nil hreq⟩
  | cons r rest =>
    cases hdec : decode r with
    | ok i => exact .inr (.inl ⟨r, rest, i, rfl, hdec, step_of_cons hreq hdec⟩)
    | error e => exact .inr (.inr ⟨e, by simp [step, nextRequest, hreq, hdec]⟩)

/-- Log 11: a request placed first is the one used up, and the state it was placed in is back. -/
theorem step_placeRequest (hdec : decode r = .ok i) (s : State) : step (placeRequest r s) = exec i s :=
  step_of_cons (s := placeRequest r s) rfl hdec

/-- Settles O43: an idle step only answers, and every instruction keeps the invariant (`exec_nextInv`). -/
theorem stepKeepsInvariant : Obligations.StepKeepsInvariant := by
  intro s t hinv hstep
  rcases step_cases s with ⟨_, heq⟩ | ⟨r, rest, i, _, _, heq⟩ | ⟨e, heq⟩ <;> rw [heq] at hstep
  · cases hstep
    exact hinv.emit _
  · exact (exec_nextInv (hinv.setRequests rest) i).inv hstep
  · cases hstep

/-- Settles O42: `State.reset` is a construction with allowed parameters. -/
theorem resetStateMeetsInvariant : Obligations.ResetStateMeetsInvariant :=
  ⟨State.built_inv, State.built_inv _ _ _ (by decide)⟩

/-- Settles O6, by `step_of_cons`. -/
theorem stepRunsDecodedRequest : Obligations.StepRunsDecodedRequest :=
  fun _ _ _ _ hreq hdec => step_of_cons hreq hdec

/-- Settles O8, by `step_of_nil`. -/
theorem idleStepKeepsState : Obligations.IdleStepKeepsState := fun _ hreq => step_of_nil hreq

/-- A word of the opcode table is an instruction by way of its request. -/
theorem decodeTableWord_eq_some {nbits w : Nat} (h : decodeTableWord nbits w = some i) :
    ∃ r, tableRequest nbits w = some r ∧ decode r = .ok i := by
  unfold decodeTableWord at h
  split at h
  next r hr =>
    refine ⟨r, hr, ?_⟩
    cases hdec : decode r with
    | ok j => rw [hdec] at h; cases h; rfl
    | error e => rw [hdec] at h; cases h
  next => cases h

/-- Settles O7: the word's request is placed first and the step uses it up. -/
theorem placedTableWordRunsNext : Obligations.PlacedTableWordRunsNext := by
  intro s nbits w i hword
  obtain ⟨r, hr, hdec⟩ := decodeTableWord_eq_some hword
  have hplaced : s.withFetchWord nbits w = placeRequest r s := by simp [State.withFetchWord, hr]
  rw [hplaced, step_placeRequest hdec]

end Sys2Proof.Machine
end

section
/-! Acquisition as steps of the machine (R102, R103, R108 to R110): the push of a word, one word taken from the queue, and a
whole tick as one word after the other. -/

namespace Sys2Proof.Machine

variable {s t : State} {w : Word} {rest : List Word}

/-! ### The push and its limits -/

/-- R102: with room the word goes to the tail. -/
theorem exec_envPush_of_room (w : Word) (hroom : s.srcq.length < s.cfg.srcFifoDepth) :
    exec (.envPush w) s = .next ((s.pushWord w).emit .silent) :=
  if_pos hroom

/-- R102: the second form of the step drops the word. -/
theorem exec_envPush_of_full_dropNew (w : Word) (hfull : s.srcq.length = s.cfg.srcFifoDepth)
    (hdrop : s.cfg.srcOverflow = .dropNew) : exec (.envPush w) s = .next (s.emit .silent) :=
  (if_neg (by omega)).trans (if_pos ⟨hfull, hdrop⟩)

/-- R102: a stalled source has no step at a full queue. -/
theorem exec_envPush_of_full_stall (w : Word) (hfull : s.srcq.length = s.cfg.srcFifoDepth)
    (hstall : s.cfg.srcOverflow = .stall) : exec (.envPush w) s = notEnabled s :=
  (if_neg (by omega)).trans (if_neg (by simp [hstall]))

/-- Settles O9: the two enabled forms of `ENV_PUSH`. -/
theorem envPushAppendsAtTail : Obligations.EnvPushAppendsAtTail :=
  fun w _ => ⟨exec_envPush_of_room w, exec_envPush_of_full_dropNew w⟩

/-! ### One word -/

theorem exec_acqWord_of_nil (hq : s.srcq = []) : exec .acqWord s = notEnabled s := by
  simp [exec, execAcqWord, hq]

theorem exec_acqWord_of_cons (hq : s.srcq = w :: rest) :
    exec .acqWord s = .next ((acquireWord w (s.setSrcq rest)).emit .silent) := by
  simp [exec, execAcqWord, hq]

/-- R103: a word acquired is the marker finalizing or a tick count appended. -/
theorem exec_acquired (w : Word) (s : State) :
    exec (if w = 0xFFFFFFFF#32 then .finalize else .append w) s = .next ((acquireWord w s).emit .silent) := by
  rcases acquireWord_cases w s with ⟨hw, heq⟩ | ⟨hw, heq⟩
  · rw [if_pos hw, heq]
    rfl
  · rw [if_neg hw, heq]
    rfl

/-- Settles O10: the head is removed first, and acquiring it leaves the rest of the queue. -/
theorem acqWordActsOnHead : Obligations.AcqWordActsOnHead := by
  intro s w rest hq
  have hexec := exec_acqWord_of_cons hq
  exact ⟨hexec.trans (exec_acquired w (s.setSrcq rest)).symm, _, hexec, (acquireWord_frame w _).srcq⟩

/-! ### A tick -/

/-- What the last step put on its port is read by no acquisition (log 3). -/
theorem finalizeBurst_emit (o : Output) (s : State) : finalizeBurst (s.emit o) = (finalizeBurst s).emit o := by
  rcases finalizeBurst_cases s with ⟨hov, htwo, heq⟩ | ⟨hov, hlong, heq⟩ | ⟨hdrop, heq⟩ <;> rw [heq]
  · exact finalizeBurst_of_length_eq_two (s := s.emit o) hov htwo
  · exact finalizeBurst_of_two_lt_length (s := s.emit o) hov hlong
  · exact finalizeBurst_of_dropped (s := s.emit o) hdrop

theorem appendTick_emit (w : Word) (o : Output) (s : State) : appendTick w (s.emit o) = (appendTick w s).emit o := by
  rcases appendTick_cases w s with ⟨hroom, heq⟩ | ⟨hfull, heq⟩ <;> rw [heq]
  · exact appendTick_of_lt w (s := s.emit o) hroom
  · exact appendTick_of_le w (s := s.emit o) hfull

theorem acquireWord_emit (w : Word) (o : Output) (s : State) : acquireWord w (s.emit o) = (acquireWord w s).emit o := by
  unfold acquireWord
  split
  · exact finalizeBurst_emit o s
  · exact appendTick_emit w o s

/-- R110: the queue, one `ACQ_WORD` after the other. -/
theorem runInstrs_acqWords (hq : s.srcq = rest) :
    runInstrs (List.replicate rest.length .acqWord) (s.emit .silent) = .next ((drainWords rest s).emit .silent) := by
  induction rest generalizing s with
  | nil => rfl
  | cons w rest ih =>
    have hword : exec .acqWord (s.emit .silent) = .next ((acquireWord w (s.setSrcq rest)).emit .silent) := by
      have hacquired : acquireWord w ((s.emit .silent).setSrcq rest) = (acquireWord w (s.setSrcq rest)).emit .silent :=
        acquireWord_emit w .silent (s.setSrcq rest)
      rw [exec_acqWord_of_cons (s := s.emit .silent) hq, hacquired]
      rfl
    have hrest : (acquireWord w (s.setSrcq rest)).srcq = rest := (acquireWord_frame w _).srcq
    simp only [List.length_cons, List.replicate_succ, runInstrs, hword]
    exact ih hrest

/-- R110: a tick empties the queue. -/
theorem drainWords_srcq (hq : s.srcq = rest) : (drainWords rest s).srcq = [] := by
  induction rest generalizing s with
  | nil => exact hq
  | cons w rest ih => exact ih (acquireWord_frame w _).srcq

/-- Settles O13: one `ACQ_WORD` per word is the recursion of `drainWords`. -/
theorem acqTickIsRepeatedAcqWord : Obligations.AcqTickIsRepeatedAcqWord :=
  fun _ => ⟨(runInstrs_acqWords rfl).symm, _, rfl, drainWords_srcq rfl⟩

/-! ### What is pending is not read -/

/-- Two acquisitions, the first from `s` and the second from `s'`, that stand at `t` and `t'`: the same burst is being received,
and each buffer with its flag is the same with a burst stored by both, or what it was at the start. -/
structure AcquiresAlike (s s' t t' : State) : Prop where
  srcq : t'.srcq = t.srcq
  acc : t'.acc = t.acc
  accOvf : t'.accOvf = t.accOvf
  fSrc : t'.fSrc = t.fSrc
  cfg : t'.cfg = t.cfg
  command : (t'.cmdBuf = t.cmdBuf ∧ t'.cmdReady = true ∧ t.cmdReady = true) ∨
    (t'.cmdBuf = s'.cmdBuf ∧ t'.cmdReady = s'.cmdReady ∧ t.cmdBuf = s.cmdBuf ∧ t.cmdReady = s.cmdReady)
  repeated : (t'.repBuf = t.repBuf ∧ t'.repReady = true ∧ t.repReady = true) ∨
    (t'.repBuf = s'.repBuf ∧ t'.repReady = s'.repReady ∧ t.repBuf = s.repBuf ∧ t.repReady = s.repReady)

variable {s' t' : State}

/-- R63, R109: the length and the overflow flag of the burst being received choose how it ends, in both runs alike. -/
theorem AcquiresAlike.finalizeBurst (h : AcquiresAlike s s' t t') :
    AcquiresAlike s s' (finalizeBurst t) (finalizeBurst t') := by
  have hburst : convertBurst t' = convertBurst t := by simp only [convertBurst, h.acc, h.fSrc]
  have hlen : t'.acc.length = t.acc.length := congrArg List.length h.acc
  rcases finalizeBurst_cases t with ⟨hov, htwo, heq⟩ | ⟨hov, hlong, heq⟩ | ⟨hdrop, heq⟩ <;> rw [heq]
  · rw [finalizeBurst_of_length_eq_two (h.accOvf.trans hov) (hlen.trans htwo)]
    exact { h with acc := rfl, accOvf := rfl, repeated := .inl ⟨hburst, rfl, rfl⟩ }
  · rw [finalizeBurst_of_two_lt_length (h.accOvf.trans hov) (hlen ▸ hlong)]
    exact { h with acc := rfl, accOvf := rfl, command := .inl ⟨hburst, rfl, rfl⟩ }
  · rw [finalizeBurst_of_dropped (by rwa [h.accOvf, hlen])]
    exact { h with acc := rfl, accOvf := rfl }

theorem AcquiresAlike.appendTick (h : AcquiresAlike s s' t t') (w : Word) :
    AcquiresAlike s s' (appendTick w t) (appendTick w t') := by
  rcases appendTick_cases w t with ⟨hroom, heq⟩ | ⟨hfull, heq⟩ <;> rw [heq]
  · rw [appendTick_of_lt w (by rwa [h.acc, h.cfg])]
    exact { h with acc := congrArg (· ++ [w]) h.acc }
  · rw [appendTick_of_le w (by rwa [h.acc, h.cfg])]
    exact { h with accOvf := rfl }

theorem AcquiresAlike.acquireWord (h : AcquiresAlike s s' t t') (w : Word) :
    AcquiresAlike s s' (acquireWord w t) (acquireWord w t') := by
  unfold Machine.acquireWord
  split
  · exact h.finalizeBurst
  · exact h.appendTick w

theorem AcquiresAlike.setSrcq (h : AcquiresAlike s s' t t') (q : List Word) :
    AcquiresAlike s s' (t.setSrcq q) (t'.setSrcq q) := { h with srcq := rfl }

theorem AcquiresAlike.drainWords (h : AcquiresAlike s s' t t') (q : List Word) :
    AcquiresAlike s s' (drainWords q t) (drainWords q t') := by
  induction q generalizing t t' with
  | nil => exact h
  | cons w rest ih => exact ih ((h.setSrcq rest).acquireWord w)

theorem AcquiresAlike.emit (h : AcquiresAlike s s' t t') (o : Output) :
    AcquiresAlike s s' (t.emit o) (t'.emit o) := { h with }

/-- R63: the steps of acquisition, from two states that differ in nothing they read. -/
theorem exec_acquiresAlike {i : Instr} (hi : i ∈ [Instr.acqWord, Instr.acqTick, Instr.finalize])
    (h : AcquiresAlike s s' s s') (hexec : exec i s = .next t) : ∃ t', exec i s' = .next t' ∧ AcquiresAlike s s' t t' := by
  have hcases : i = .acqWord ∨ i = .acqTick ∨ i = .finalize := by simpa using hi
  rcases hcases with rfl | rfl | rfl
  · cases hq : s.srcq with
    | nil =>
      rw [exec_acqWord_of_nil hq] at hexec
      cases hexec
      exact ⟨_, exec_acqWord_of_nil (h.srcq.trans hq), h.emit _⟩
    | cons w rest =>
      rw [exec_acqWord_of_cons hq] at hexec
      cases hexec
      exact ⟨_, exec_acqWord_of_cons (h.srcq.trans hq), ((h.setSrcq rest).acquireWord w).emit _⟩
  · cases hexec
    refine ⟨_, rfl, ?_⟩
    rw [h.srcq]
    exact (h.drainWords s.srcq).emit _
  · cases hexec
    exact ⟨_, rfl, h.finalizeBurst.emit _⟩

/-- Settles O15: the two runs start alike and stay alike (`exec_acquiresAlike`). -/
theorem acquisitionNeverReadsPendingBursts : Obligations.AcquisitionNeverReadsPendingBursts := by
  intro s t cb rb cr rr code ph i hi hexec
  obtain ⟨t', hexec', halike⟩ := exec_acquiresAlike (s := s)
    (s' := { s with cmdBuf := cb, cmdReady := cr, repBuf := rb, repReady := rr, commandCode := code, pollPhase := ph }) hi
    ⟨rfl, rfl, rfl, rfl, rfl, .inr ⟨rfl, rfl, rfl, rfl⟩, .inr ⟨rfl, rfl, rfl, rfl⟩⟩ hexec
  exact ⟨t', hexec', halike.srcq, halike.acc, halike.accOvf, halike.command, halike.repeated⟩

end Sys2Proof.Machine
end

section
/-! The code of a frame (R76, R136): one bit per data pair, the first at bit 31; and the value without a partner (R53). -/

namespace Sys2Proof.Machine

/-- R76: after `n` data pairs of `b`, bit `32 - k` of the code is pair `k`'s and the bits below are still 0. -/
structure HoldsPairs (b : List Nat) (n : Nat) (code : Word) : Prop where
  bit : ∀ k, 1 ≤ k → k ≤ n → code.getLsbD (32 - k) = decide (inOneWindows (pairMark b k) (pairSpace b k))
  below : ∀ j, j < 32 - n → code.getLsbD j = false

theorem holdsPairs_zero (b : List Nat) : HoldsPairs b 0 0#32 where
  bit := by omega
  below := by simp

/-- R134, R135: a valid pair sets its bit when it is a `1`. -/
theorem decodePair_of_valid_eq {k p1 p2 : Nat} (hk : 1 ≤ k) (hk' : k ≤ 32)
    (hvalid : inZeroWindows p1 p2 ∨ inOneWindows p1 p2) (code : Word) :
    decodePair k code p1 p2 = .ok (if inOneWindows p1 p2 then code ||| codeBit k else code) := by
  rcases decodePair_cases k code p1 p2 with
    ⟨hout, _⟩ | ⟨_, hone, heq⟩ | ⟨_, hzero, heq⟩ | ⟨_, _, hone, hzero, _⟩ | ⟨_, _, hone, hzero, _⟩
  · simp [(pairInCode_iff k).2 ⟨hk, hk'⟩] at hout
  · rw [heq, if_pos ((isOnePair_iff p1 p2).1 hone)]
  · have hnone : ¬ inOneWindows p1 p2 := fun hone => by
      rw [isZeroPair_eq_false_of_isOnePair ((isOnePair_iff p1 p2).2 hone)] at hzero
      cases hzero
    rw [heq, if_neg hnone]
  · simp [← isZeroPair_iff, ← isOnePair_iff, hone, hzero] at hvalid
  · simp [← isZeroPair_iff, ← isOnePair_iff, hone, hzero] at hvalid

/-- R76: what a pair adds to the code, bit by bit. -/
theorem getLsbD_ite_or_codeBit {k : Nat} (hk : 1 ≤ k) (hk' : k ≤ 32) (p : Prop) [Decidable p] (code : Word) (j : Nat) :
    (if p then code ||| codeBit k else code).getLsbD j = (code.getLsbD j || (decide p && decide (j = 32 - k))) := by
  split
  · simp [BitVec.getLsbD_or, codeBit_getLsbD k j hk hk', *]
  · simp [*]

/-- R76, R134: the next pair's bit joins the code and no other bit moves. -/
theorem HoldsPairs.succ {b : List Nat} {n : Nat} {code : Word} (h : HoldsPairs b n code) (hn : n + 1 ≤ 32) :
    HoldsPairs b (n + 1)
      (if inOneWindows (pairMark b (n + 1)) (pairSpace b (n + 1)) then code ||| codeBit (n + 1) else code) where
  bit := fun k hk hkn => by
    rw [getLsbD_ite_or_codeBit (by omega) hn]
    rcases Nat.lt_or_eq_of_le hkn with hlt | rfl
    · have hother : 32 - k ≠ 32 - (n + 1) := by omega
      rw [decide_eq_false hother, Bool.and_false, Bool.or_false, h.bit k hk (by omega)]
    · have hclear : code.getLsbD (32 - (n + 1)) = false := h.below _ (by omega)
      rw [hclear, Bool.false_or, decide_eq_true rfl, Bool.and_true]
  below := fun j hj => by
    have hother : j ≠ 32 - (n + 1) := by omega
    rw [getLsbD_ite_or_codeBit (by omega) hn, h.below j (by omega), decide_eq_false hother, Bool.and_false, Bool.or_false]

/-- R133, R76: over `n` valid pairs within the code the walk gets to pair `n + 1` with their bits assembled. -/
theorem walkPairs_assembles_validPairs {b : List Nat} {n : Nat} (hn : n ≤ pairCount b) (hn' : n ≤ 32)
    (hvalid : ∀ k, 1 ≤ k → k ≤ n →
      inZeroWindows (pairMark b k) (pairSpace b k) ∨ inOneWindows (pairMark b k) (pairSpace b k)) :
    ∃ code, walkPairs (b.drop 2) 1 0#32 = walkPairs (b.drop (2 * (n + 1))) (n + 1) code ∧ HoldsPairs b n code := by
  induction n with
  | zero => exact ⟨0#32, rfl, holdsPairs_zero b⟩
  | succ n ih =>
    obtain ⟨code, hwalk, hcode⟩ := ih (by omega) (by omega) fun k hk hkn => hvalid k hk (by omega)
    have hpair := decodePair_of_valid_eq (by omega) hn' (hvalid (n + 1) (by omega) le_rfl) code
    refine ⟨_, ?_, hcode.succ hn'⟩
    rw [hwalk, drop_eq_pair_cons (by omega) hn, walkPairs_cons_of_ok hpair]

/-- R133, R136: with fewer than two values left the walk is complete. -/
theorem walkPairs_of_length_le_one {ps : List Nat} (hps : ps.length ≤ 1) (k : Nat) (code : Word) :
    walkPairs ps k code = .ok code := by
  match ps with
  | [] => rfl
  | [_] => rfl

/-- R132 to R136: an accepted start and at most 32 valid pairs are a code, whose bits are the pairs'. -/
theorem decodeFrame_of_validPairs {b : List Nat} (hlen : 2 ≤ b.length)
    (hstart : inStartWindows (b.getD 0 0) (b.getD 1 0)) (hcount : pairCount b ≤ 32)
    (hvalid : ∀ k, 1 ≤ k → k ≤ pairCount b →
      inZeroWindows (pairMark b k) (pairSpace b k) ∨ inOneWindows (pairMark b k) (pairSpace b k)) :
    ∃ code, decodeFrame b = .ok code ∧ HoldsPairs b (pairCount b) code := by
  obtain ⟨code, hwalk, hcode⟩ := walkPairs_assembles_validPairs le_rfl hcount hvalid
  refine ⟨code, ?_, hcode⟩
  rw [decodeFrame_of_startAccepted hlen hstart, hwalk]
  refine walkPairs_of_length_le_one ?_ _ _
  simp only [List.length_drop, pairCount]
  omega

/-- Settles O23: `FRAME_DECODE` answers the code of `decodeFrame_of_validPairs`. -/
theorem frameCodeHasOneBitPerPair : Obligations.FrameCodeHasOneBitPerPair := by
  intro b s hlen hstart hcount hvalid
  obtain ⟨code, hdec, hcode⟩ := decodeFrame_of_validPairs hlen hstart hcount hvalid
  exact ⟨code, (exec_frameDecode_eq_next_frameOk_iff b s code).2 hdec, hcode.bit, hcode.below⟩

/-- R53, R133: a last value without a partner is not reached by the walk. -/
theorem walkPairs_append_unpaired (x : Nat) (ps : List Nat) (k : Nat) (code : Word) (heven : ps.length % 2 = 0) :
    walkPairs (ps ++ [x]) k code = walkPairs ps k code := by
  induction ps, k, code using walkPairs.induct with
  | case1 p1 p2 rest k code code' hpair ih =>
    have hrest : rest.length % 2 = 0 := by simp only [List.length_cons] at heven; omega
    exact (walkPairs_cons_of_ok hpair _).trans ((ih hrest).trans (walkPairs_cons_of_ok hpair _).symm)
  | case2 p1 p2 rest k code f hpair =>
    exact (walkPairs_cons_of_raised hpair _).trans (walkPairs_cons_of_raised hpair _).symm
  | case3 p1 p2 rest k code hpair => simp [walkPairs, hpair]
  | case4 k code v => simp at heven
  | case5 k code => rfl

/-- Settles O26: the first two values are the start pair, and the rest is a walk over an even number of values. -/
theorem unpairedLastValueIsUnread : Obligations.UnpairedLastValueIsUnread := by
  intro b x s hlen heven
  have hdec : decodeFrame (b ++ [x]) = decodeFrame b := by
    match b with
    | v0 :: v1 :: rest =>
      have hrest : rest.length % 2 = 0 := by simp only [List.length_cons] at heven; omega
      simp [decodeFrame, walkPairs_append_unpaired x rest 1 0#32 hrest]
  simp only [exec, execFrameDecode, hdec]

end Sys2Proof.Machine
end

section
/-! The poll, whole and split (R160 to R165), and the rows that stand for a part of it (R59, R77, R78). -/

namespace Sys2Proof.Machine

variable {s : State}

/-! ### The parts of a poll as rows of their own -/

theorem applyRepeatPolicy_of_false (hpolicy : s.repeatPolicy = false) :
    applyRepeatPolicy s = s.setCode Config.repeatSentinel :=
  if_neg (by simp [hpolicy])

theorem applyRepeatPolicy_of_true (hpolicy : s.repeatPolicy = true) : applyRepeatPolicy s = s := if_pos hpolicy

/-- Settles O30: the policy decides what `applyRepeatPolicy` writes. -/
theorem sentinelWrittenOnlyUnderItsPolicy : Obligations.SentinelWrittenOnlyUnderItsPolicy := by
  intro s
  have hexec : exec .repeatSentinel s = .next ((applyRepeatPolicy s).emit .silent) := rfl
  refine ⟨fun hpolicy => ?_, fun hpolicy => ?_⟩
  · rw [hexec, applyRepeatPolicy_of_false hpolicy]
    rfl
  · rw [hexec, applyRepeatPolicy_of_true hpolicy]
    rfl

/-- Settles O38: a take has no condition, and by its definition copies, empties and clears. -/
theorem takeCopiesAndClears : Obligations.TakeCopiesAndClears := fun _ => ⟨rfl, rfl⟩

/-- Settles O39: each status row is `replyWith` or `failPoll`, and only `OK_COMMAND` writes before it. -/
theorem replyRowsEndThePoll : Obligations.ReplyRowsEndThePoll := fun _ => ⟨rfl, rfl, rfl, rfl, rfl, rfl, rfl, rfl⟩

/-! ### Every path replies -/

/-- R9, R35: the bound on a pending command burst. -/
theorem State.Inv.cmdBuf_length_le (h : s.Inv) (hcmd : s.cmdReady = true) : s.cmdBuf.length ≤ 67 := by
  obtain ⟨_, hdepth⟩ := h.cmdPending hcmd
  obtain ⟨_, hbound, _⟩ := (config_valid_iff s.cfg).1 h.cfgValid
  exact hdepth.trans hbound

/-- R161: within the bound of R9 the command path consumes the burst and replies; on a failure the code it writes is the code
that stood. -/
theorem commandPath_replies (hlen : s.cmdBuf.length ≤ 67) :
    ∃ newCode status code,
      commandPath s = .next (((s.takeBurst .command).setCode code).emit (.reply newCode status)) := by
  rcases commandPath_cases s with ⟨code, _, heq⟩ | ⟨f, _, heq⟩ | ⟨hout, _⟩
  · exact ⟨_, _, code, heq⟩
  · exact ⟨_, _, s.commandCode, heq⟩
  · exact absurd hout (decodeFrame_inCode _ hlen)

/-- R162: the repeat path consumes the burst, clears both flags and replies. -/
theorem repeatPath_replies (s : State) :
    ∃ newCode status code,
      repeatPath s = .next (((s.takeBurst .repeated).clearCmdReady.setCode code).emit (.reply newCode status)) := by
  rcases repeatPath_cases s with ⟨_, heq⟩ | ⟨f, _, heq⟩
  · rw [applyRepeatPolicy_eq] at heq
    exact ⟨_, _, _, heq⟩
  · exact ⟨_, _, s.commandCode, heq⟩

theorem repeatOrIdle_replies (s : State) :
    ∃ t newCode status, repeatOrIdle s = .next t ∧ t.out = .reply newCode status := by
  rcases repeatOrIdle_cases s with ⟨_, heq⟩ | ⟨_, heq⟩
  · obtain ⟨newCode, status, code, hpath⟩ := repeatPath_replies s
    exact ⟨_, newCode, status, heq.trans hpath, rfl⟩
  · exact ⟨_, false, .noBurst, heq, rfl⟩

/-- Settles O32: a poll is the command path, which replies within the bound, or the repeat path or the idle reply. -/
theorem pollAlwaysReplies : Obligations.PollAlwaysReplies := by
  intro s hon hlen
  rw [exec_poll_of_enabled hon]
  rcases pollWhole_cases s with ⟨_, heq⟩ | ⟨_, heq⟩ <;> rw [heq]
  · obtain ⟨newCode, status, code, hpath⟩ := commandPath_replies hlen
    exact ⟨_, newCode, status, hpath, rfl⟩
  · exact repeatOrIdle_replies s

/-! ### The split poll -/

theorem exec_pollA_of_cmdReady (hsplit : s.cfg.pollAtomic = false) (hidle : s.pollPhase = .idle)
    (hcmd : s.cmdReady = true) : exec .pollA s = commandPath s :=
  (if_pos ⟨hsplit, hidle⟩).trans (if_pos hcmd)

theorem exec_pollA_of_not_cmdReady (hsplit : s.cfg.pollAtomic = false) (hidle : s.pollPhase = .idle)
    (hcmd : s.cmdReady = false) : exec .pollA s = .next ((s.setPhase .repeatCheck).emit .silent) :=
  (execPollA_of_not_cmdReady hcmd).trans (if_pos ⟨hsplit, hidle⟩)

theorem exec_pollB_of_enabled (hsplit : s.cfg.pollAtomic = false) (hphase : s.pollPhase = .repeatCheck) :
    exec .pollB s = repeatOrIdle (s.setPhase .idle) :=
  if_pos ⟨hsplit, hphase⟩

/-- Settles O34: `POLL_A` is the command path or moves the phase, `POLL_B` is the repeat path or the idle reply. -/
theorem splitPollHalves : Obligations.SplitPollHalves := by
  intro s hsplit
  refine ⟨exec_pollA_of_not_cmdReady hsplit, fun hidle hcmd hlen => ?takes,
    fun hidle hcmd => ⟨fun code hok => ?decodes, fun f hraised => ?fails⟩, fun hphase hrep => ?noBurst,
    fun hphase hrep => ?repeats, fun v0 v1 rest hphase hrep hbuf => ⟨fun hw => ?valid, fun hw => ?invalid⟩⟩
  case takes =>
    rw [exec_pollA_of_cmdReady hsplit hidle hcmd]
    exact commandPath_replies hlen
  case decodes =>
    rw [exec_frameDecode_eq_next_frameOk_iff] at hok
    rw [exec_pollA_of_cmdReady hsplit hidle hcmd, commandPath_of_ok hok]
    rfl
  case fails =>
    rw [exec_frameDecode_eq_next_raised_iff] at hraised
    rw [exec_pollA_of_cmdReady hsplit hidle hcmd, commandPath_of_raised hraised]
    rfl
  case noBurst =>
    rw [exec_pollB_of_enabled hsplit hphase]
    exact if_neg (by simp [hrep])
  case repeats =>
    rw [exec_pollB_of_repReady hsplit hphase hrep]
    exact repeatPath_replies (s.setPhase .idle)
  case valid =>
    rw [exec_pollB_of_repReady hsplit hphase hrep, repeatPath_of_inRepeatWindows (s := s.setPhase .idle) hbuf hw,
      applyRepeatPolicy_eq]
    rfl
  case invalid =>
    rw [exec_pollB_of_repReady hsplit hphase hrep, repeatPath_of_not_inRepeatWindows (s := s.setPhase .idle) hbuf hw]
    rfl

/-- What the last step put on its port is read by no poll (log 3). -/
theorem repeatPath_emit (o : Output) (s : State) : repeatPath (s.emit o) = repeatPath s := by
  simp only [repeatPath, pending_repeated, emit_repBuf, applyRepeatPolicy_eq]
  cases repeatFailure s.repBuf <;> rfl

theorem repeatOrIdle_emit (o : Output) (s : State) : repeatOrIdle (s.emit o) = repeatOrIdle s := by
  simp only [repeatOrIdle, emit_repReady, repeatPath_emit]
  rfl

theorem runInstrs_pair {i j : Instr} {t u : State} (hfirst : exec i s = .next t) (hsecond : exec j t = .next u) :
    runInstrs [i, j] s = .next u := by
  simp only [runInstrs, hfirst, hsecond]

/-- R165: the two halves with nothing between, when no command burst is ready. -/
theorem runInstrs_halves (hsplit : s.cfg.pollAtomic = false) (hidle : s.pollPhase = .idle) (hcmd : s.cmdReady = false) :
    runInstrs [.pollA, .pollB] s = repeatOrIdle s := by
  have hback : ((s.setPhase .repeatCheck).emit .silent).setPhase .idle = s.emit .silent := by
    rw [← hidle]
    rfl
  have hsecond : exec .pollB ((s.setPhase .repeatCheck).emit .silent) = repeatOrIdle s := by
    rw [exec_pollB_of_enabled (s := (s.setPhase .repeatCheck).emit .silent) hsplit rfl, hback, repeatOrIdle_emit]
  obtain ⟨t, _, _, hnext, _⟩ := repeatOrIdle_replies s
  rw [hnext] at hsecond ⊢
  exact runInstrs_pair (exec_pollA_of_not_cmdReady hsplit hidle hcmd) hsecond

/-- Settles O35: with a command burst both are the command path, and with none both are the repeat path or the idle reply. -/
theorem splitPollEqualsWholePoll : Obligations.SplitPollEqualsWholePoll := by
  intro s hsplit hidle
  rw [exec_poll_of_enabled (.inr hidle)]
  refine ⟨fun hcmd => ?_, fun hcmd => ?_⟩
  · rw [exec_pollA_of_cmdReady hsplit hidle hcmd, pollWhole_of_cmdReady hcmd]
  · rw [runInstrs_halves hsplit hidle hcmd, pollWhole_of_not_cmdReady hcmd]

/-! ### Steps that are not enabled -/

/-- R165: no poll starts inside a split poll. -/
theorem exec_poll_of_repeatCheck (hsplit : s.cfg.pollAtomic = false) (hphase : s.pollPhase = .repeatCheck) :
    exec .poll s = notEnabled s :=
  if_neg (by simp [hsplit, hphase])

theorem exec_pollA_of_repeatCheck (hphase : s.pollPhase = .repeatCheck) : exec .pollA s = notEnabled s :=
  if_neg (by simp [hphase])

theorem exec_pollB_of_idle (hidle : s.pollPhase = .idle) : exec .pollB s = notEnabled s :=
  if_neg (by simp [hidle])

/-- Settles O51: each of these is `notEnabled`, which only answers. -/
theorem disabledStepChangesNothing : Obligations.DisabledStepChangesNothing := fun _ =>
  ⟨fun w hfull hstall => exec_envPush_of_full_stall w hfull hstall, exec_acqWord_of_nil,
    fun hsplit hphase => ⟨exec_poll_of_repeatCheck hsplit hphase, exec_pollA_of_repeatCheck hphase⟩,
    fun hatomic => ⟨exec_pollA_of_atomic hatomic, exec_pollB_of_atomic hatomic⟩, exec_pollB_of_idle⟩

end Sys2Proof.Machine
end

section
/-! A frame a symbol at a time (R130 to R136): the symbols as steps of the walk, and a poll of a command burst as its take and
its symbols. -/

namespace Sys2Proof.Machine

/-! ### One symbol -/

theorem heldZero_of_inCode {k : Nat} (hk : pairInCode k = true) (code : Word) (p1 p2 : Nat) :
    heldZero k code p1 p2 = if inZeroWindows p1 p2 then .ok code else .raised .invalidZeroBit := by
  simp only [heldZero, if_pos hk, isZeroPair_iff]

theorem heldOne_of_inCode {k : Nat} (hk : pairInCode k = true) (code : Word) (p1 p2 : Nat) :
    heldOne k code p1 p2 = if inOneWindows p1 p2 then .ok (code ||| codeBit k) else .raised .invalidOneBit := by
  simp only [heldOne, if_pos hk, isOnePair_iff]

/-- R133, R137: the walk indexes whose pair has a bit in the code. -/
theorem pairInCode_pairIndex_iff (i : Nat) : pairInCode (pairIndex i) = true ↔ 2 ≤ i ∧ i ≤ 65 := by
  rw [pairInCode_iff, pairIndex]
  omega

/-- Settles O27: the windows choose what each symbol's test answers, and the walk index whether its pair has a bit. -/
theorem symbolsStepTheWalk : Obligations.SymbolsStepTheWalk := by
  intro p1 p2 s
  refine ⟨fun hw => if_pos ((startAccepted_iff p1 p2).2 hw), fun hw => if_neg (mt (startAccepted_iff p1 p2).1 hw),
    fun hlow hhigh => ?inside, fun hout => ?outside⟩
  case inside =>
    have hin := (pairInCode_pairIndex_iff s.frame.i).2 ⟨hlow, hhigh⟩
    simp only [exec, execZero, execOne, heldZero_of_inCode hin, heldOne_of_inCode hin]
    refine ⟨fun hw => ?_, fun hw => ?_, fun hw => ?_, fun hw => ?_⟩
    · rw [if_pos hw]; rfl
    · rw [if_neg hw]; rfl
    · rw [if_pos hw]; rfl
    · rw [if_neg hw]; rfl
  case outside =>
    have hnot : ¬ pairInCode (pairIndex s.frame.i) = true := by
      rw [pairInCode_pairIndex_iff]
      omega
    simp only [exec, execZero, execOne, heldZero, heldOne, if_neg hnot]
    exact ⟨rfl, rfl⟩

/-! ### The end of a frame -/

/-- R161: how a poll ends, by the result of its frame, in the state with the burst taken. -/
def frameEnd (u : State) : FrameResult → Result
  | .ok code => replyWith true .okCommand (u.setCode code)
  | .raised f => failPoll f u
  | .bitIndexOutsideCode => .fault .bitIndexOutsideCode

theorem commandPath_eq_frameEnd (s : State) :
    commandPath s = frameEnd (s.takeBurst .command) (decodeFrame s.cmdBuf) := by
  simp only [commandPath, pending_command]
  cases decodeFrame s.cmdBuf <;> rfl

/-- The reply replaces whatever was on the port. -/
theorem frameEnd_emit (u : State) (o : Output) (r : FrameResult) : frameEnd (u.emit o) r = frameEnd u r := by
  cases r <;> rfl

/-- No end of a frame writes the working values. -/
theorem frameEnd_setFrame {u t : State} {r : FrameResult} (h : frameEnd u r = .next t) (f : FrameWalk) :
    frameEnd (u.setFrame f) r = .next (t.setFrame f) := by
  cases r <;> cases h <;> rfl

/-! ### A run of symbols -/

theorem runToReply_cons_of_silent {i : Instr} {s t : State} (hexec : exec i s = .next (t.emit .silent))
    (is : List Instr) : runToReply (i :: is) s = runToReply is (t.emit .silent) := by
  simp [runToReply, hexec]

theorem runToReply_cons_of_burst {i : Instr} {s t : State} {b : List Nat} (hexec : exec i s = .next (t.emit (.burst b)))
    (is : List Instr) : runToReply (i :: is) s = runToReply is (t.emit (.burst b)) := by
  simp [runToReply, hexec]

/-- A reply ends the run. -/
theorem runToReply_cons_of_reply {i : Instr} {s t : State} {newCode : Bool} {status : Status}
    (hexec : exec i s = .next (t.emit (.reply newCode status))) (is : List Instr) :
    runToReply (i :: is) s = .next (t.emit (.reply newCode status)) := by
  simp [runToReply, hexec]

/-- R134, R135: at pair `k` the symbol a pair decodes to does what `decodePair` does with the pair, and a pair that is no symbol
is the failure's row. -/
theorem exec_decodeDataPair {u : State} {k : Nat} {code : Word} (hk : pairInCode k = true) (hframe : u.frame = ⟨2 * k, code⟩)
    (p1 p2 : Nat) :
    (∃ code', decodePair k code p1 p2 = .ok code' ∧
        exec (decodeDataPair p1 p2) u = .next ((u.setFrame ⟨2 * (k + 1), code'⟩).emit .silent)) ∨
      (∃ f, decodePair k code p1 p2 = .raised f ∧
        exec (decodeDataPair p1 p2) u = .next (u.emit (.reply false (.failed f)))) := by
  have hindex : pairIndex (2 * k) = k := by simp [pairIndex]
  unfold decodePair decodeDataPair
  split
  · cases hone : isOnePair p1 p2
    · exact .inr ⟨.invalidOneBit, by simp [heldOne, hk, hone], rfl⟩
    · have hheld : heldOne k code p1 p2 = .ok (code ||| codeBit k) := by simp [heldOne, hk, hone]
      refine .inl ⟨_, hheld, ?_⟩
      simp only [↓reduceIte, exec, execOne, keepPair, hframe, hindex, hheld]
      rfl
  · cases hzero : isZeroPair p1 p2
    · exact .inr ⟨.invalidZeroBit, by simp [heldZero, hk, hzero], rfl⟩
    · have hheld : heldZero k code p1 p2 = .ok code := by simp [heldZero, hk, hzero]
      refine .inl ⟨_, hheld, ?_⟩
      simp only [↓reduceIte, exec, execZero, keepPair, hframe, hindex, hheld]
      rfl

/-- R136: with no pair left the assembled code is the frame's. -/
theorem runToReply_okCommand {u : State} {i : Nat} {code : Word} (hframe : u.frame = ⟨i, code⟩) :
    runToReply [.okCommand] u = frameEnd u (.ok code) := by
  have hexec : exec .okCommand u = .next ((u.setCode u.frame.codeAcc).emit (.reply true .okCommand)) := rfl
  rw [hframe] at hexec
  exact runToReply_cons_of_reply hexec []

/-- R133 to R136: from pair `k` on, the symbols end as the walk does, up to the working values. -/
theorem runToReply_dataSymbols (ps : List Nat) (k : Nat) (code : Word) (u : State) (hk : 1 ≤ k)
    (hlen : ps.length / 2 + k ≤ 33) (hframe : u.frame = ⟨2 * k, code⟩) :
    ∃ f, runToReply (dataSymbols ps ++ [.okCommand]) u = frameEnd (u.setFrame f) (walkPairs ps k code) := by
  induction ps, k, code using walkPairs.induct generalizing u with
  | case1 p1 p2 rest k code code' hpair ih =>
    simp only [List.length_cons] at hlen
    have hin : pairInCode k = true := (pairInCode_iff k).2 ⟨hk, by omega⟩
    have hexec : exec (decodeDataPair p1 p2) u = .next ((u.setFrame ⟨2 * (k + 1), code'⟩).emit .silent) := by
      simpa [hpair] using exec_decodeDataPair hin hframe p1 p2
    obtain ⟨f, hrest⟩ := ih ((u.setFrame ⟨2 * (k + 1), code'⟩).emit .silent) (by omega) (by omega) rfl
    refine ⟨f, ?_⟩
    rw [walkPairs_cons_of_ok hpair]
    exact (runToReply_cons_of_silent hexec _).trans (hrest.trans (frameEnd_emit (u.setFrame f) .silent _))
  | case2 p1 p2 rest k code f hpair =>
    simp only [List.length_cons] at hlen
    have hin : pairInCode k = true := (pairInCode_iff k).2 ⟨hk, by omega⟩
    have hexec : exec (decodeDataPair p1 p2) u = .next (u.emit (.reply false (.failed f))) := by
      simpa [hpair] using exec_decodeDataPair hin hframe p1 p2
    refine ⟨u.frame, ?_⟩
    rw [walkPairs_cons_of_raised hpair]
    exact runToReply_cons_of_reply hexec _
  | case3 p1 p2 rest k code hpair =>
    refine absurd ?_ (walkPairs_inCode (p1 :: p2 :: rest) k code hk hlen)
    simp [walkPairs, hpair]
  | case4 k code v => exact ⟨u.frame, runToReply_okCommand hframe⟩
  | case5 k code => exact ⟨u.frame, runToReply_okCommand hframe⟩

/-- R130, R132: a burst of 2 to 67 values a symbol at a time ends as the whole frame does, up to the working values. -/
theorem runToReply_frameSymbols {b : List Nat} (hlong : 2 ≤ b.length) (hlen : b.length ≤ 67) (u : State) :
    ∃ f, runToReply (frameSymbols b) u = frameEnd (u.setFrame f) (decodeFrame b) := by
  match b with
  | v0 :: v1 :: rest =>
    simp only [List.length_cons] at hlen
    by_cases hstart : startAccepted v0 v1 = true
    · have hsymbol : decodeStartPair v0 v1 = .start v0 v1 := if_pos hstart
      have hexec : exec (.start v0 v1) u = .next ((u.setFrame FrameWalk.initial).emit .silent) := if_pos hstart
      obtain ⟨f, hrest⟩ := runToReply_dataSymbols rest 1 0#32 ((u.setFrame FrameWalk.initial).emit .silent) le_rfl
        (by omega) rfl
      refine ⟨f, ?_⟩
      simp only [frameSymbols, decodeFrame, hsymbol, if_pos hstart]
      exact (runToReply_cons_of_silent hexec _).trans (hrest.trans (frameEnd_emit (u.setFrame f) .silent _))
    · have hsymbol : decodeStartPair v0 v1 = .invalidStartSequence := if_neg hstart
      refine ⟨u.frame, ?_⟩
      simp only [frameSymbols, decodeFrame, hsymbol, if_neg hstart]
      exact runToReply_cons_of_reply (t := u) rfl _

/-- Settles O28: the take leaves the state the command path ends the frame in, and the symbols end it the same way. -/
theorem pollOfCommandIsItsSymbolRun : Obligations.PollOfCommandIsItsSymbolRun := by
  intro s hinv hcmd hon
  have hlen := hinv.cmdBuf_length_le hcmd
  have hlong : 2 ≤ s.cmdBuf.length := (hinv.cmdPending hcmd).1.le
  obtain ⟨newCode, status, code, hpath⟩ := commandPath_replies hlen
  have hpoll := (exec_poll_of_enabled hon).trans ((pollWhole_of_cmdReady hcmd).trans hpath)
  have htake : exec (.take .command) s = .next ((s.takeBurst .command).emit (.burst s.cmdBuf)) := rfl
  obtain ⟨f, hsymbols⟩ := runToReply_frameSymbols hlong hlen ((s.takeBurst .command).emit (.burst s.cmdBuf))
  rw [commandPath_eq_frameEnd] at hpath
  refine ⟨_, f, hpoll, ?_⟩
  rw [runToReply_cons_of_burst htake, hsymbols]
  exact frameEnd_setFrame ((frameEnd_emit _ _ _).trans hpath) f

end Sys2Proof.Machine
end

section
/-! What a step can write (R16, R28, R31, R78, R192), said once for all 32 rows, and the statements that follow from it. -/

namespace Sys2Proof.Machine

variable {s t : State} {i : Instr}

/-! ### One inversion for every step -/

/-- R78: a reply, when the output is one, has `new_code` for the statuses 0 and 1 alone. -/
def replyAgrees : Output → Bool
  | .reply newCode status => newCode == decide (statusCode status ≤ 1)
  | _ => true

theorem replyAgrees_failed (f : Failure) : replyAgrees (.reply false (.failed f)) = true := by
  cases f <;> rfl

/-- The next states an instruction can have. `answers` is a step that only puts something on its port: the pure functions, the
replies, the failures and every step that is not enabled. -/
inductive Writes (s : State) : Instr → State → Prop
  | answers (i : Instr) {o : Output} (ho : replyAgrees o = true) : Writes s i (s.emit o)
  | symbol {i : Instr} (hi : i.agent = none) (f : FrameWalk) : Writes s i ((s.setFrame f).emit .silent)
  | push (w : Word) : Writes s (.envPush w) ((s.pushWord w).emit .silent)
  | tick (w : Word) {i : Instr} (hi : i ∈ [Instr.append w, Instr.tick w]) : Writes s i ((appendTick w s).emit .silent)
  | burstEnd {i : Instr} (hi : i ∈ [Instr.finalize, Instr.timeout]) : Writes s i ((finalizeBurst s).emit .silent)
  | acqWord {w : Word} {rest : List Word} (hq : s.srcq = w :: rest) :
      Writes s .acqWord ((acquireWord w (s.setSrcq rest)).emit .silent)
  | acqTick : Writes s .acqTick ((drainWords s.srcq s).emit .silent)
  | take (kind : BurstKind) (b : List Nat) : Writes s (.take kind) ((s.takeBurst kind).emit (.burst b))
  | okCommand : Writes s .okCommand ((s.setCode s.frame.codeAcc).emit (.reply true .okCommand))
  | repeatPair (p1 p2 : Nat) : Writes s (.repeatPair p1 p2) ((applyRepeatPolicy s).emit .repeatOk)
  | repeatHandle (b : List Nat) : Writes s (.repeatHandle b) ((applyRepeatPolicy s).emit .repeatOk)
  | repeatSentinel : Writes s .repeatSentinel ((applyRepeatPolicy s).emit .silent)
  | pollCommand {i : Instr} (hi : i ∈ [Instr.poll, Instr.pollA]) (code : Word) {o : Output} (ho : replyAgrees o = true) :
      Writes s i (((s.takeBurst .command).setCode code).emit o)
  | pollRepeat {i : Instr} (hi : i ∈ [Instr.poll, Instr.pollB]) (p : PollPhase) (code : Word) {o : Output}
      (ho : replyAgrees o = true) : Writes s i ((((s.setPhase p).takeBurst .repeated).clearCmdReady.setCode code).emit o)
  | pollPhase {i : Instr} (hi : i ∈ [Instr.pollA, Instr.pollB]) (p : PollPhase) {o : Output} (ho : replyAgrees o = true) :
      Writes s i ((s.setPhase p).emit o)
  | reset (pin : Nat) (policy : Bool) (fSrc : Freq) (cfg : Config) :
      Writes s (.reset pin policy fSrc.val cfg) ((State.built pin policy fSrc cfg).setRequests s.requests)

/-- The next state, when the outcome is one, is among those of the instruction. -/
def NextWrites (s : State) (i : Instr) (r : Result) : Prop := ∀ t, r = .next t → Writes s i t

theorem Writes.next (h : Writes s i t) : NextWrites s i (.next t) := by
  rintro _ ⟨⟩
  exact h

theorem fault_writes (r : Fault) : NextWrites s i (.fault r) := fun _ h => by cases h

theorem refused_writes (r : Refusal) : NextWrites s i (.refused r) := fun _ h => by cases h

theorem keepPair_writes (hi : i.agent = none) (r : FrameResult) (s : State) : NextWrites s i (keepPair r s) := by
  rcases keepPair_cases r s with ⟨code, _, heq⟩ | ⟨f, _, heq⟩ | ⟨_, heq⟩ <;> rw [heq]
  · exact Writes.next (Writes.symbol hi _)
  · exact Writes.next (Writes.answers i rfl)
  · exact fault_writes _

theorem commandPath_writes (hi : i ∈ [Instr.poll, Instr.pollA]) (s : State) : NextWrites s i (commandPath s) := by
  rcases commandPath_cases s with ⟨code, _, heq⟩ | ⟨f, _, heq⟩ | ⟨_, heq⟩ <;> rw [heq]
  · exact Writes.next (Writes.pollCommand hi code rfl)
  · exact Writes.next (Writes.pollCommand hi s.commandCode (replyAgrees_failed f))
  · exact fault_writes _

theorem repeatPath_writes (hi : i ∈ [Instr.poll, Instr.pollB]) (p : PollPhase) (s : State) :
    NextWrites s i (repeatPath (s.setPhase p)) := by
  rcases repeatPath_cases (s.setPhase p) with ⟨_, heq⟩ | ⟨f, _, heq⟩ <;> rw [heq]
  · rw [applyRepeatPolicy_eq]
    exact Writes.next (Writes.pollRepeat hi p _ rfl)
  · exact Writes.next (Writes.pollRepeat hi p s.commandCode (replyAgrees_failed f))

theorem exec_poll_writes (s : State) : NextWrites s .poll (exec .poll s) := by
  simp only [exec, execPoll]
  split
  · rcases pollWhole_cases s with ⟨_, heq⟩ | ⟨_, heq⟩ <;> rw [heq]
    · exact commandPath_writes (by simp) s
    · rcases repeatOrIdle_cases s with ⟨_, hpath⟩ | ⟨_, hpath⟩ <;> rw [hpath]
      · exact repeatPath_writes (by simp) s.pollPhase s
      · exact Writes.next (Writes.answers _ rfl)
  · exact Writes.next (Writes.answers _ rfl)

theorem exec_pollA_writes (s : State) : NextWrites s .pollA (exec .pollA s) := by
  simp only [exec, execPollA]
  split
  · split
    · exact commandPath_writes (by simp) s
    · exact Writes.next (Writes.pollPhase (by simp) _ rfl)
  · exact Writes.next (Writes.answers _ rfl)

theorem exec_pollB_writes (s : State) : NextWrites s .pollB (exec .pollB s) := by
  simp only [exec, execPollB]
  split
  · rcases repeatOrIdle_cases (s.setPhase .idle) with ⟨_, hpath⟩ | ⟨_, hpath⟩ <;> rw [hpath]
    · exact repeatPath_writes (by simp) .idle s
    · exact Writes.next (Writes.pollPhase (by simp) .idle rfl)
  · exact Writes.next (Writes.answers _ rfl)

theorem exec_envPush_writes (w : Word) (s : State) : NextWrites s (.envPush w) (exec (.envPush w) s) := by
  simp only [exec, execEnvPush]
  split
  · exact Writes.next (Writes.push w)
  · split
    · exact Writes.next (Writes.answers _ rfl)
    · exact Writes.next (Writes.answers _ rfl)

theorem exec_acqWord_writes (s : State) : NextWrites s .acqWord (exec .acqWord s) := by
  simp only [exec, execAcqWord]
  split
  · exact Writes.next (Writes.answers _ rfl)
  next hq => exact Writes.next (Writes.acqWord hq)

theorem exec_start_writes (p1 p2 : Nat) (s : State) : NextWrites s (.start p1 p2) (exec (.start p1 p2) s) := by
  simp only [exec, execStart]
  split
  · exact Writes.next (Writes.symbol rfl _)
  · exact Writes.next (Writes.answers _ rfl)

theorem exec_frameDecode_writes (b : List Nat) (s : State) :
    NextWrites s (.frameDecode b) (exec (.frameDecode b) s) := by
  rcases exec_frameDecode_cases b s with ⟨_, _, heq⟩ | ⟨_, _, heq⟩ | ⟨_, heq⟩ <;> rw [heq]
  · exact Writes.next (Writes.answers _ rfl)
  · exact Writes.next (Writes.answers _ rfl)
  · exact fault_writes _

theorem exec_repeatPair_writes (p1 p2 : Nat) (s : State) :
    NextWrites s (.repeatPair p1 p2) (exec (.repeatPair p1 p2) s) := by
  simp only [exec, execRepeatPair]
  split
  · exact Writes.next (Writes.repeatPair p1 p2)
  · exact Writes.next (Writes.answers _ rfl)

theorem exec_repeatHandle_writes (b : List Nat) (s : State) :
    NextWrites s (.repeatHandle b) (exec (.repeatHandle b) s) := by
  simp only [exec, execRepeatHandle]
  split
  · exact Writes.next (Writes.repeatHandle b)
  · exact Writes.next (Writes.answers _ rfl)

theorem exec_reset_writes (pin : Nat) (policy : Bool) (fSrc : Nat) (cfg : Config) (s : State) :
    NextWrites s (.reset pin policy fSrc cfg) (exec (.reset pin policy fSrc cfg) s) := by
  by_cases hok : 1 ≤ fSrc ∧ cfg.valid = true
  · rw [exec_reset_of_valid hok.1 hok.2]
    exact Writes.next (Writes.reset pin policy ⟨fSrc, hok.1⟩ cfg)
  · rw [exec_reset_of_forbidden hok]
    exact refused_writes _

/-- Every instruction's next state is one of `Writes`. -/
theorem exec_writes (i : Instr) (s : State) : NextWrites s i (exec i s) := by
  cases i with
  | timeout => exact Writes.next (Writes.burstEnd (by simp))
  | tick t => exact Writes.next (Writes.tick t (by simp))
  | start p1 p2 => exact exec_start_writes p1 p2 s
  | zero p1 p2 => exact keepPair_writes rfl _ s
  | one p1 p2 => exact keepPair_writes rfl _ s
  | repeatPair p1 p2 => exact exec_repeatPair_writes p1 p2 s
  | envPush w => exact exec_envPush_writes w s
  | acqWord => exact exec_acqWord_writes s
  | append w => exact Writes.next (Writes.tick w (by simp))
  | finalize => exact Writes.next (Writes.burstEnd (by simp))
  | acqTick => exact Writes.next Writes.acqTick
  | frameDecode b => exact exec_frameDecode_writes b s
  | repeatHandle b => exact exec_repeatHandle_writes b s
  | poll => exact exec_poll_writes s
  | pollA => exact exec_pollA_writes s
  | pollB => exact exec_pollB_writes s
  | take kind => exact Writes.next (Writes.take kind _)
  | reset pin policy fSrc cfg => exact exec_reset_writes pin policy fSrc cfg s
  | okCommand => exact Writes.next Writes.okCommand
  | repeatSentinel => exact Writes.next Writes.repeatSentinel
  | toUs | matchTest | isZero | isOne | readCode => exact Writes.next (Writes.answers _ rfl)
  | okRepeat | noBurst | insufficientData | invalidStartSequence | invalidZeroBit | invalidOneBit
  | invalidRepeatFrame => exact Writes.next (Writes.answers _ rfl)

/-! ### What acquisition leaves alone -/

theorem SameOutsideAcquisition.setSrcq (h : SameOutsideAcquisition s t) (q : List Word) :
    SameOutsideAcquisition (s.setSrcq q) (t.setSrcq q) := { h with srcq := rfl }

theorem SameOutsideAcquisition.trans {u : State} (h : SameOutsideAcquisition s t) (h' : SameOutsideAcquisition t u) :
    SameOutsideAcquisition s u where
  srcq := h'.srcq.trans h.srcq
  commandCode := h'.commandCode.trans h.commandCode
  pollPhase := h'.pollPhase.trans h.pollPhase
  repeatPolicy := h'.repeatPolicy.trans h.repeatPolicy
  fSrc := h'.fSrc.trans h.fSrc
  pin := h'.pin.trans h.pin
  cfg := h'.cfg.trans h.cfg
  frame := h'.frame.trans h.frame
  requests := h'.requests.trans h.requests
  out := h'.out.trans h.out

theorem SameOutsideAcquisition.parameters (h : SameOutsideAcquisition s t) :
    t.repeatPolicy = s.repeatPolicy ∧ t.fSrc = s.fSrc ∧ t.pin = s.pin ∧ t.cfg = s.cfg :=
  ⟨h.repeatPolicy, h.fSrc, h.pin, h.cfg⟩

/-- R110, R192: a tick empties the queue and leaves alone what each of its words does. -/
theorem drainWords_frame {q : List Word} (hq : s.srcq = q) :
    SameOutsideAcquisition (s.setSrcq []) (drainWords q s) := by
  induction q generalizing s with
  | nil => exact ⟨hq, rfl, rfl, rfl, rfl, rfl, rfl, rfl, rfl, rfl⟩
  | cons w rest ih =>
    have hword := acquireWord_frame w (s.setSrcq rest)
    exact (hword.setSrcq []).trans (ih hword.srcq)

/-- R31: acquisition only raises the flags of pending bursts. -/
theorem acquireWord_keeps_flags (w : Word) (s : State) :
    (s.cmdReady = true → (acquireWord w s).cmdReady = true) ∧
      (s.repReady = true → (acquireWord w s).repReady = true) := by
  rcases acquireWord_cases w s with ⟨_, heq⟩ | ⟨_, heq⟩ <;> rw [heq]
  · rcases finalizeBurst_cases s with ⟨_, _, hend⟩ | ⟨_, _, hend⟩ | ⟨_, hend⟩ <;> rw [hend]
    · exact ⟨id, fun _ => rfl⟩
    · exact ⟨fun _ => rfl, id⟩
    · exact ⟨id, id⟩
  · rcases appendTick_cases w s with ⟨_, hend⟩ | ⟨_, hend⟩ <;> rw [hend] <;> exact ⟨id, id⟩

theorem drainWords_keeps_flags (q : List Word) (s : State) :
    (s.cmdReady = true → (drainWords q s).cmdReady = true) ∧
      (s.repReady = true → (drainWords q s).repReady = true) := by
  induction q generalizing s with
  | nil => exact ⟨id, id⟩
  | cons w rest ih =>
    obtain ⟨hcmd, hrep⟩ := acquireWord_keeps_flags w (s.setSrcq rest)
    obtain ⟨hcmd', hrep'⟩ := ih (acquireWord w (s.setSrcq rest))
    exact ⟨hcmd' ∘ hcmd, hrep' ∘ hrep⟩

/-! ### The statements -/

theorem Writes.replyAgrees_out (h : Writes s i t) : replyAgrees t.out = true := by
  cases h with
  | answers _ ho | pollCommand _ _ ho | pollRepeat _ _ _ ho | pollPhase _ _ ho => exact ho
  | _ => rfl

/-- Settles O40: every step that replies does so with a reply that agrees. -/
theorem newCodeExactlyForStatusZeroOrOne : Obligations.NewCodeExactlyForStatusZeroOrOne := by
  intro i s t newCode status hexec hout
  have hagrees := (exec_writes i s t hexec).replyAgrees_out
  rw [hout] at hagrees
  have hcode : newCode = decide (statusCode status ≤ 1) := eq_of_beq hagrees
  rw [hcode, decide_eq_true_iff]

/-- Settles O14: every other row keeps the accumulator or appends to it. -/
theorem accumulatorEmptiedOnlyByFinalizeOrReset : Obligations.AccumulatorEmptiedOnlyByFinalizeOrReset := by
  intro i s t hexec hfull hempty
  cases exec_writes i s t hexec with
  | burstEnd hi => rcases List.mem_pair.1 hi with rfl | rfl <;> simp
  | acqWord | acqTick | reset => simp
  | tick w hi =>
    rcases appendTick_cases w s with ⟨_, heq⟩ | ⟨_, heq⟩ <;> rw [heq] at hempty
    · simp at hempty
    · exact absurd hempty hfull
  | take kind => cases kind <;> exact absurd hempty hfull
  | repeatPair | repeatHandle | repeatSentinel =>
    rw [applyRepeatPolicy_eq] at hempty
    exact absurd hempty hfull
  | _ => exact absurd hempty hfull

/-- Settles O46: the code is written by the command path, the repeat path, the repeat policy and construction. -/
theorem commandCodeHasFewWriters : Obligations.CommandCodeHasFewWriters := by
  intro i s t hexec hchanged
  cases exec_writes i s t hexec with
  | pollCommand hi => rcases List.mem_pair.1 hi with rfl | rfl <;> simp
  | pollRepeat hi => rcases List.mem_pair.1 hi with rfl | rfl <;> simp
  | reset | okCommand | repeatPair | repeatHandle | repeatSentinel => simp
  | tick w => exact absurd (appendTick_frame w s).commandCode hchanged
  | burstEnd => exact absurd (finalizeBurst_frame s).commandCode hchanged
  | acqWord => exact absurd (acquireWord_frame _ _).commandCode hchanged
  | acqTick => exact absurd (drainWords_frame rfl).commandCode hchanged
  | take kind => cases kind <;> exact absurd rfl hchanged
  | _ => exact absurd rfl hchanged

/-- Settles O50: no update but construction writes a parameter. -/
theorem parametersChangeOnlyByReset : Obligations.ParametersChangeOnlyByReset := by
  intro i s t hexec
  cases exec_writes i s t hexec with
  | reset pin policy fSrc cfg => exact .inr ⟨pin, policy, fSrc.val, cfg, rfl⟩
  | tick w => exact .inl (appendTick_frame w s).parameters
  | burstEnd => exact .inl (finalizeBurst_frame s).parameters
  | @acqWord w rest => exact .inl (acquireWord_frame w (s.setSrcq rest)).parameters
  | acqTick => exact .inl (drainWords_frame (s := s) rfl).parameters
  | take kind => cases kind <;> exact .inl ⟨rfl, rfl, rfl, rfl⟩
  | repeatPair | repeatHandle | repeatSentinel =>
    rw [applyRepeatPolicy_eq]
    exact .inl ⟨rfl, rfl, rfl, rfl⟩
  | _ => exact .inl ⟨rfl, rfl, rfl, rfl⟩

/-- R31, for the steps of the agents: a step moves no flag, or it is acquisition and keeps the pending bursts' flags, or a poll
and raises none, or construction. -/
theorem Writes.flags_of_agent (h : Writes s i t) (hi : i.agent ≠ none) :
    (t.cmdReady = s.cmdReady ∧ t.repReady = s.repReady ∧ t.accOvf = s.accOvf) ∨
      ((i = .acqWord ∨ i = .acqTick) ∧ (s.cmdReady = true → t.cmdReady = true) ∧
        (s.repReady = true → t.repReady = true)) ∨
      (i.agent = some .app ∧ (s.cmdReady = false → t.cmdReady = false) ∧ (s.repReady = false → t.repReady = false) ∧
        t.accOvf = s.accOvf) ∨
      (i.agent = some .rst ∧ t.cmdReady = false ∧ t.repReady = false ∧ t.accOvf = false) := by
  cases h with
  | answers | push | pollPhase => exact .inl ⟨rfl, rfl, rfl⟩
  | @acqWord w rest =>
    exact .inr (.inl ⟨.inl rfl, acquireWord_keeps_flags w (s.setSrcq rest)⟩)
  | acqTick => exact .inr (.inl ⟨.inr rfl, drainWords_keeps_flags s.srcq s⟩)
  | pollCommand hpoll =>
    refine .inr (.inr (.inl ⟨?_, fun _ => rfl, id, rfl⟩))
    rcases List.mem_pair.1 hpoll with rfl | rfl <;> rfl
  | pollRepeat hpoll =>
    refine .inr (.inr (.inl ⟨?_, fun _ => rfl, fun _ => rfl, rfl⟩))
    rcases List.mem_pair.1 hpoll with rfl | rfl <;> rfl
  | reset => exact .inr (.inr (.inr ⟨rfl, rfl, rfl, rfl⟩))
  | symbol hnone => exact absurd hnone hi
  | tick w hrow => rcases List.mem_pair.1 hrow with rfl | rfl <;> exact absurd rfl hi
  | burstEnd hrow => rcases List.mem_pair.1 hrow with rfl | rfl <;> exact absurd rfl hi
  | take | okCommand | repeatPair | repeatHandle | repeatSentinel => exact absurd rfl hi

/-- Settles O47, by `Writes.flags_of_agent`. -/
theorem flagsChangeOnlyAsTabled : Obligations.FlagsChangeOnlyAsTabled := by
  intro i s t hi hexec
  rcases (exec_writes i s t hexec).flags_of_agent hi with
    ⟨hcmd, hrep, hov⟩ | ⟨hacq, hcmd, hrep⟩ | ⟨happ, hcmd, hrep, hov⟩ | ⟨hrst, hcmd, hrep, hov⟩
  · simp +contextual [hcmd, hrep, hov]
  · have hagent : i.agent = some .acq := by rcases hacq with rfl | rfl <;> rfl
    simp +contextual [hacq, hagent, hcmd, hrep]
  · simp +contextual [happ, hcmd, hrep, hov]
  · simp +contextual [hrst, hcmd, hrep, hov]

/-- R192: the environment only adds words to the source queue. -/
theorem Writes.of_env (h : Writes s i t) (hi : i.agent = some .env) :
    t = { s with srcq := t.srcq, out := t.out } ∧ ∃ added, t.srcq = s.srcq ++ added := by
  cases h with
  | answers => exact ⟨rfl, [], (List.append_nil _).symm⟩
  | push w => exact ⟨rfl, [w], rfl⟩
  | symbol hnone => simp [hnone] at hi
  | tick _ hrow | burstEnd hrow | pollCommand hrow | pollRepeat hrow | pollPhase hrow =>
    rcases List.mem_pair.1 hrow with rfl | rfl <;> cases hi
  | _ => cases hi

/-- R192: acquisition only takes words from the queue, and writes neither the code nor the phase. -/
theorem Writes.of_acq (h : Writes s i t) (hi : i.agent = some .acq) :
    t.commandCode = s.commandCode ∧ t.pollPhase = s.pollPhase ∧ ∃ removed, s.srcq = removed ++ t.srcq := by
  cases h with
  | answers => exact ⟨rfl, rfl, [], rfl⟩
  | @acqWord w rest hq =>
    have hframe := acquireWord_frame w (s.setSrcq rest)
    exact ⟨hframe.commandCode, hframe.pollPhase, [w], hq.trans (congrArg (w :: ·) hframe.srcq.symm)⟩
  | acqTick =>
    have hframe : SameOutsideAcquisition (s.setSrcq []) (drainWords s.srcq s) := drainWords_frame rfl
    refine ⟨hframe.commandCode, hframe.pollPhase, s.srcq, ?_⟩
    rw [emit_srcq, hframe.srcq, setSrcq_srcq, List.append_nil]
  | symbol hnone => simp [hnone] at hi
  | tick _ hrow | burstEnd hrow | pollCommand hrow | pollRepeat hrow | pollPhase hrow =>
    rcases List.mem_pair.1 hrow with rfl | rfl <;> cases hi
  | _ => cases hi

/-- R192: the polling context writes nothing of the reception. -/
theorem Writes.of_app (h : Writes s i t) (hi : i.agent = some .app) :
    t.srcq = s.srcq ∧ t.acc = s.acc ∧ t.accOvf = s.accOvf := by
  cases h with
  | answers | pollCommand | pollRepeat | pollPhase => exact ⟨rfl, rfl, rfl⟩
  | symbol hnone => simp [hnone] at hi
  | tick _ hrow | burstEnd hrow => rcases List.mem_pair.1 hrow with rfl | rfl <;> cases hi
  | _ => cases hi

/-- Settles O48, context by context. -/
theorem contextsKeepToTheirState : Obligations.ContextsKeepToTheirState := by
  intro i s t hexec
  have hwrites := exec_writes i s t hexec
  exact ⟨hwrites.of_env, hwrites.of_acq, hwrites.of_app⟩

end Sys2Proof.Machine
end

section
/-! The polling context reads nothing of the reception (R167, R225), and no agent's step stops the block (R186). -/

namespace Sys2Proof.Machine

variable {s : State} {i : Instr}

/-! ### Reception is not read -/

/-- The state with another source queue and another burst being received. -/
def State.withReception (q a : List Word) (o : Bool) (s : State) : State := { s with srcq := q, acc := a, accOvf := o }

/-- The outcome with its next state, if it has one, changed. -/
def onNext (f : State → State) : Result → Result
  | .next t => .next (f t)
  | .fault r => .fault r
  | .refused r => .refused r

/-- A test that comes out the same in both runs is taken once. -/
theorem ite_eq_onNext {c : Prop} [Decidable c] {f : State → State} {r₁ r₁' r₂ r₂' : Result} (h₁ : r₁' = onNext f r₁)
    (h₂ : r₂' = onNext f r₂) : (if c then r₁' else r₂') = onNext f (if c then r₁ else r₂) := by
  by_cases hc : c
  · rwa [if_pos hc, if_pos hc]
  · rwa [if_neg hc, if_neg hc]

variable (q a : List Word) (o : Bool)

theorem commandPath_withReception (s : State) :
    commandPath (s.withReception q a o) = onNext (State.withReception q a o) (commandPath s) := by
  have hburst : (s.withReception q a o).cmdBuf = s.cmdBuf := rfl
  simp only [commandPath, pending_command, hburst]
  cases decodeFrame s.cmdBuf <;> rfl

theorem repeatPath_withReception (s : State) :
    repeatPath (s.withReception q a o) = onNext (State.withReception q a o) (repeatPath s) := by
  have hburst : (s.withReception q a o).repBuf = s.repBuf := rfl
  simp only [repeatPath, pending_repeated, hburst, applyRepeatPolicy_eq]
  cases repeatFailure s.repBuf <;> rfl

theorem repeatOrIdle_withReception (s : State) :
    repeatOrIdle (s.withReception q a o) = onNext (State.withReception q a o) (repeatOrIdle s) :=
  ite_eq_onNext (repeatPath_withReception q a o s) rfl

theorem pollWhole_withReception (s : State) :
    pollWhole (s.withReception q a o) = onNext (State.withReception q a o) (pollWhole s) :=
  ite_eq_onNext (commandPath_withReception q a o s) (repeatOrIdle_withReception q a o s)

/-- R167, R225: with another reception the polling context does the same, and leaves that one. -/
theorem exec_withReception (hi : i.agent = some .app) (s : State) :
    exec i (s.withReception q a o) = onNext (State.withReception q a o) (exec i s) := by
  cases i with
  | poll => exact ite_eq_onNext (pollWhole_withReception q a o s) rfl
  | pollA => exact ite_eq_onNext (ite_eq_onNext (commandPath_withReception q a o s) rfl) rfl
  | pollB => exact ite_eq_onNext (repeatOrIdle_withReception q a o (s.setPhase .idle)) rfl
  | readCode => rfl
  | _ => cases hi

/-- Settles O49, by `exec_withReception`. -/
theorem pollIgnoresReception : Obligations.PollIgnoresReception := by
  intro i s t q a o hi hexec
  refine (exec_withReception q a o hi s).trans ?_
  rw [hexec]
  rfl

/-! ### No step stops the block -/

/-- R161, R186: a command burst the block stored decodes to a code or a failure. -/
theorem State.Inv.commandPath_ends (h : s.Inv) (hcmd : s.cmdReady = true) : ∃ t, commandPath s = .next t := by
  obtain ⟨_, _, _, hpath⟩ := commandPath_replies (h.cmdBuf_length_le hcmd)
  exact ⟨_, hpath⟩

theorem repeatOrIdle_ends (s : State) : ∃ t, repeatOrIdle s = .next t := by
  obtain ⟨t, _, _, hnext, _⟩ := repeatOrIdle_replies s
  exact ⟨t, hnext⟩

theorem exec_envPush_ends (w : Word) (s : State) : ∃ t, exec (.envPush w) s = .next t := by
  simp only [exec, execEnvPush]
  split
  · exact ⟨_, rfl⟩
  · split <;> exact ⟨_, rfl⟩

theorem exec_acqWord_ends (s : State) : ∃ t, exec .acqWord s = .next t := by
  cases hq : s.srcq with
  | nil => exact ⟨_, exec_acqWord_of_nil hq⟩
  | cons w rest => exact ⟨_, exec_acqWord_of_cons hq⟩

theorem State.Inv.exec_poll_ends (h : s.Inv) : ∃ t, exec .poll s = .next t := by
  simp only [exec, execPoll]
  split
  · rcases pollWhole_cases s with ⟨hcmd, heq⟩ | ⟨_, heq⟩ <;> rw [heq]
    · exact h.commandPath_ends hcmd
    · exact repeatOrIdle_ends s
  · exact ⟨_, rfl⟩

theorem State.Inv.exec_pollA_ends (h : s.Inv) : ∃ t, exec .pollA s = .next t := by
  simp only [exec, execPollA]
  split
  · split
    next hcmd => exact h.commandPath_ends hcmd
    next => exact ⟨_, rfl⟩
  · exact ⟨_, rfl⟩

theorem exec_pollB_ends (s : State) : ∃ t, exec .pollB s = .next t := by
  simp only [exec, execPollB]
  split
  · exact repeatOrIdle_ends _
  · exact ⟨_, rfl⟩

/-- Settles O45, agent by agent: the invariant bounds the burst the command path decodes, the one place a fault could come
from. -/
theorem agentStepsNeverStop : Obligations.AgentStepsNeverStop := by
  intro i s hinv hi hallowed
  cases i with
  | envPush w => exact exec_envPush_ends w s
  | acqWord => exact exec_acqWord_ends s
  | acqTick | readCode => exact ⟨_, rfl⟩
  | poll => exact hinv.exec_poll_ends
  | pollA => exact hinv.exec_pollA_ends
  | pollB => exact exec_pollB_ends s
  | reset pin policy fSrc cfg =>
    obtain ⟨hsrc, hcfg⟩ := hallowed pin policy fSrc cfg rfl
    exact ⟨_, exec_reset_of_valid hsrc hcfg s⟩
  | _ => exact absurd rfl hi

end Sys2Proof.Machine
end

section
/-! A frame from the source queue to the command code (R81, R110, R106, R76): the tick stores the frame's values as a command
burst, and the poll decodes one bit per pair. -/

namespace Sys2Proof.Machine

variable {s : State}

/-! ### The tick -/

/-- R104, R110: tick counts that fit join the burst one after the other. -/
theorem drainWords_ticks {ws rest : List Word} (hq : s.srcq = ws ++ rest) (hticks : ∀ w ∈ ws, w ≠ 0xFFFFFFFF#32)
    (hroom : s.acc.length + ws.length ≤ s.cfg.accDepth) :
    drainWords (ws ++ rest) s = drainWords rest { s with srcq := rest, acc := s.acc ++ ws } := by
  induction ws generalizing s with
  | nil =>
    rw [List.append_nil, ← show s.srcq = rest from hq]
    rfl
  | cons w ws ih =>
    obtain ⟨hw, hws⟩ := List.forall_mem_cons.1 hticks
    rw [List.length_cons] at hroom
    have hword : acquireWord w (s.setSrcq (ws ++ rest)) = (s.setSrcq (ws ++ rest)).appendAcc w := by
      have happend : acquireWord w (s.setSrcq (ws ++ rest)) = appendTick w (s.setSrcq (ws ++ rest)) :=
        if_neg (mt (isMarker_iff w).1 hw)
      rw [happend, appendTick_of_lt]
      change s.acc.length < s.cfg.accDepth
      omega
    have hnext : drainWords (w :: (ws ++ rest)) s = drainWords (ws ++ rest) ((s.setSrcq (ws ++ rest)).appendAcc w) :=
      congrArg (drainWords (ws ++ rest)) hword
    rw [List.cons_append, hnext, ih rfl hws (by simp; omega), appendAcc_acc, setSrcq_acc, List.append_assoc]
    rfl

/-- R106, R110: a tick over a whole burst of more than two values stores it, converted. -/
theorem drainWords_burst {ws : List Word} (hq : s.srcq = ws ++ [0xFFFFFFFF#32])
    (hticks : ∀ w ∈ ws, w ≠ 0xFFFFFFFF#32) (hacc : s.acc = []) (hov : s.accOvf = false) (hlong : 2 < ws.length)
    (hroom : ws.length ≤ s.cfg.accDepth) :
    drainWords s.srcq s = ((s.setSrcq []).storeBurst .command (ws.map (toMicros s.fSrc))).clearAcc := by
  rw [hq, drainWords_ticks hq hticks (by simpa [hacc] using hroom), hacc, List.nil_append]
  exact finalizeBurst_of_two_lt_length (s := { s with srcq := [], acc := ws }) hov hlong

/-! ### The words and values of a frame -/

theorem frameWords_ne_marker (bits : List Bool) : ∀ w ∈ frameWords bits, w ≠ 0xFFFFFFFF#32 := by
  have hbit : ∀ b, ∀ w ∈ bitWords b, w ≠ 0xFFFFFFFF#32 := by
    intro b
    cases b <;> simp [bitWords]
  intro w hw
  rcases List.mem_append.1 hw with hstart | hdata
  · rcases List.mem_pair.1 hstart with rfl | rfl <;> decide
  · obtain ⟨b, _, hb⟩ := List.mem_flatMap.1 hdata
    exact hbit b w hb

/-- R71, R81: the two values of a bit at 256000 Hz. -/
def bitMicros (b : Bool) : List Nat := [562, if b then 1679 else 562]

/-- R71, R81: the values of a frame at 256000 Hz. -/
def frameMicros (bits : List Bool) : List Nat := 9000 :: 4500 :: bits.flatMap bitMicros

theorem map_toMicros_frameWords {f : Freq} (hf : f.val = 256000) (bits : List Bool) :
    (frameWords bits).map (toMicros f) = frameMicros bits := by
  have hbit : ∀ b, (bitWords b).map (toMicros f) = bitMicros b := by
    intro b
    cases b <;> simp [bitWords, bitMicros, toMicros_of_val_eq_256000 hf]
  simp [frameWords, frameMicros, List.map_flatMap, hbit, toMicros_of_val_eq_256000 hf]

theorem length_flatMap_bitMicros (bits : List Bool) : (bits.flatMap bitMicros).length = 2 * bits.length := by
  simp [bitMicros, Nat.mul_comm]

theorem length_frameMicros (bits : List Bool) : (frameMicros bits).length = 2 * bits.length + 2 :=
  congrArg (· + 2) (length_flatMap_bitMicros bits)

theorem length_frameWords (bits : List Bool) : (frameWords bits).length = 2 * bits.length + 2 := by
  rw [← length_frameMicros, ← map_toMicros_frameWords (f := ⟨256000, by decide⟩) rfl, List.length_map]

theorem pairCount_frameMicros (bits : List Bool) : pairCount (frameMicros bits) = bits.length := by
  rw [pairCount, length_frameMicros]
  omega

theorem getD_flatMap_bitMicros {bits : List Bool} {j : Nat} (hj : j < bits.length) :
    (bits.flatMap bitMicros).getD (2 * j) 0 = 562 ∧
      (bits.flatMap bitMicros).getD (2 * j + 1) 0 = if bits.getD j false then 1679 else 562 := by
  induction bits generalizing j with
  | nil => simp at hj
  | cons b bits ih =>
    cases j with
    | zero => exact ⟨rfl, rfl⟩
    | succ j => exact ih (Nat.lt_of_succ_lt_succ hj)

/-- R53, R76: pair `j + 1` of the frame is the pair of bit `j`. -/
theorem pair_frameMicros {bits : List Bool} {j : Nat} (hj : j < bits.length) :
    pairMark (frameMicros bits) (j + 1) = 562 ∧
      pairSpace (frameMicros bits) (j + 1) = if bits.getD j false then 1679 else 562 :=
  getD_flatMap_bitMicros hj

/-- R121, R122: the pair of a bit is a symbol, and it is a `1` exactly when the bit is. -/
theorem bit_isSymbol (b : Bool) :
    inZeroWindows 562 (if b then 1679 else 562) ∨ inOneWindows 562 (if b then 1679 else 562) := by
  cases b <;> decide

theorem decide_inOneWindows_bit (b : Bool) : decide (inOneWindows 562 (if b then 1679 else 562)) = b := by
  cases b <;> decide

/-- R76, R136: the code of a frame of at most 32 bits. -/
theorem decodeFrame_frameMicros {bits : List Bool} (hbits : bits.length ≤ 32) :
    ∃ code, decodeFrame (frameMicros bits) = .ok code ∧
      (∀ j, j < bits.length → code.getLsbD (31 - j) = bits.getD j false) ∧
      (∀ j, j < 32 - bits.length → code.getLsbD j = false) := by
  have hcount := pairCount_frameMicros bits
  have hvalid : ∀ k, 1 ≤ k → k ≤ pairCount (frameMicros bits) →
      inZeroWindows (pairMark (frameMicros bits) k) (pairSpace (frameMicros bits) k) ∨
        inOneWindows (pairMark (frameMicros bits) k) (pairSpace (frameMicros bits) k) := by
    intro k hk hkn
    obtain ⟨j, rfl⟩ := Nat.exists_eq_add_of_le' hk
    obtain ⟨hmark, hspace⟩ := pair_frameMicros (bits := bits) (j := j) (by omega)
    rw [hmark, hspace]
    exact bit_isSymbol _
  have hstart : inStartWindows 9000 4500 := by decide
  obtain ⟨code, hdec, hcode⟩ := decodeFrame_of_validPairs (b := frameMicros bits) (by simp [length_frameMicros]) hstart
    (hcount.trans_le hbits) hvalid
  refine ⟨code, hdec, fun j hj => ?_, fun j hj => hcode.below j (by omega)⟩
  obtain ⟨hmark, hspace⟩ := pair_frameMicros hj
  have hbit := hcode.bit (j + 1) (by omega) (by omega)
  rw [hmark, hspace, decide_inOneWindows_bit] at hbit
  rwa [show 31 - j = 32 - (j + 1) by omega]

/-- Settles O52: the tick stores the frame's values (`drainWords_burst`) and the poll decodes them
(`decodeFrame_frameMicros`). -/
theorem waitingFrameIsDecoded : Obligations.WaitingFrameIsDecoded := by
  intro bits s hinv hpos hroom hsrc hacc hov hidle hq
  have hlen := length_frameWords bits
  obtain ⟨_, hbound, _⟩ := (config_valid_iff s.cfg).1 hinv.cfgValid
  obtain ⟨code, hdec, hbits, hbelow⟩ := decodeFrame_frameMicros (bits := bits) (by omega)
  have htick : exec .acqTick s =
      .next ((((s.setSrcq []).storeBurst .command (frameMicros bits)).clearAcc).emit .silent) := by
    rw [← map_toMicros_frameWords hsrc,
      ← drainWords_burst hq (frameWords_ne_marker bits) hacc hov (by omega) (by omega)]
    rfl
  have hpoll := exec_poll_of_decodes
    (s := (((s.setSrcq []).storeBurst .command (frameMicros bits)).clearAcc).emit .silent) (.inr hidle) rfl hdec
  exact ⟨_, runInstrs_pair htick hpoll, rfl, rfl, rfl, rfl, rfl, rfl, hbits, hbelow⟩

end Sys2Proof.Machine
end
